-- ==== Sys2Proof/Word.lean ====
section
/-! DEFINITION. The words of the coordinator: a byte of a link frame and a value of the seconds count. -/

namespace Sys2Proof

/-- One byte of a link frame (spec/10, 10.7). -/
abbrev Byte := BitVec 8

/-- A value of the seconds count, 0 to 2^32 - 1 (R160). It is also every recorded time. -/
abbrev Seconds := BitVec 32

end Sys2Proof
end

