-- ==== Sys2Proof/Config.lean ====
section
/-! DEFINITION. What is fixed for every CX-48 (the capacities and times the spec states as figures),
and the free values of the model. -/

namespace Sys2Proof.Config

/-- Report records a report queue holds (R163). -/
def reportCapacity : Nat := 64
/-- Reports one FETCH_REPORTS removes at most (R165). -/
def fetchLimit : Nat := 8
/-- Incident records the incident list holds (R52, R57). -/
def incidentCapacity : Nat := 16
/-- Ranges the range table holds (R35, R39). -/
def rangeCapacity : Nat := 256
/-- Program slots of the instance table (R141). -/
def progCapacity : Nat := 32
/-- Playback engines (R141). -/
def engineCount : Nat := 4
/-- Entries of the tenant list (R141, R152). -/
def tenantCapacity : Nat := 8
/-- Phrases of a content, and positions of a template (R11, R142). -/
def phraseLimit : Nat := 16
/-- The figure a stair load is clamped at (R98). -/
def loadLimit : Nat := 4095
/-- The cap of a clear time, in seconds (R100). -/
def clearTimeLimit : Nat := 65535
/-- Floor indexes of the coordinator (spec/00 0.5). -/
def floorSlots : Nat := 48
/-- Bytes of a reply body (R161, Figure 10-4). -/
def bodyLimit : Nat := 240

/-- Tenths of a second in one second: every timer of the model counts tenths. -/
def second : Nat := 10

/-- FREE VALUE (notes/assumptions/2.md). Where several events are due together the spec lets either be
taken first (R81, R117, R134, R157 and others). Which one is taken is this function of a counter in
State: it has no body, so nothing constrains it. -/
opaque choice : Nat → Nat

/-- FREE VALUE (notes/assumptions/31.md). "Car shut down" carries passes and a redirect count, and the spec does not say
which for a PARKED car, whose run is over (R120). They are this function of the number of orders sent so far, which
rises with each such report, and of the car and the field; it has no body. -/
opaque unstated : Nat → Nat → Nat

end Sys2Proof.Config
end

