-- ==== Sys2Proof/Syntax.lean ====
section
/-! DEFINITION. The commands of the coordinator, one constructor per row of spec/opcode_table.json, with
their operands. Identifiers and quantities of a request stand as carried (plain numbers), because R2
judges them when the request is taken. A body that has not the form of its request kind is `none`: the
owning division refuses it FORMAT at the place its rule gives that check (R158). -/

namespace Sys2Proof

/-- The two serial links (spec/00 0.2). -/
inductive Link where
  | host | service
  deriving DecidableEq, Repr

/-- A claimed level that names a command level, 1 to 3 (spec/00 0.6). -/
inductive Level where
  | one | two | three
  deriving DecidableEq, Repr

/-- The panel ports P1 to P4. -/
inductive Port where
  | p1 | p2 | p3 | p4
  deriving DecidableEq, Repr

/-- The stairs A to D. -/
inductive Stair where
  | a | b | c | d
  deriving DecidableEq, Repr

/-- The lift banks. -/
inductive Bank where
  | one | two
  deriving DecidableEq, Repr

/-- The mode of a panel port (R12). -/
inductive PortMode where
  | contact | serial
  deriving DecidableEq, Repr

/-- The measured class of a contact input (R21). -/
inductive LineClass where
  | normal | alarm | opened | shorted
  deriving DecidableEq, Repr

/-- The condition a SERIAL panel's point event reports (2.5): CLEAR is read as NORMAL (R24). -/
inductive PanelCondition where
  | alarm | fault | clear
  deriving DecidableEq, Repr

/-- The condition of a list record (2.5). -/
inductive ListCondition where
  | alarm | fault
  deriving DecidableEq, Repr

/-- The phases of a floor (R74). -/
inductive Phase where
  | normal | alert | evacuate | defend | standdown
  deriving DecidableEq, Repr

/-- The comparisons of SCAN_FLOORS (R161). -/
inductive Comparison where
  | equal | atLeast | atMost
  deriving DecidableEq, Repr

/-- The six fire templates (R11). -/
inductive Template where
  | alert | evacuate | defend | allclear | drillPrefix | exitPhrase
  deriving DecidableEq, Repr

/-- Motion of a car (R111). -/
inductive Motion where
  | up | down | stopped
  deriving DecidableEq, Repr

/-- Doors of a car (R111). -/
inductive CarDoors where
  | opened | closed
  deriving DecidableEq, Repr

/-- Service mode of a car (R111). -/
inductive ServiceMode where
  | normal | independent | inspection | fireKey
  deriving DecidableEq, Repr

/-- A car's status record (R111). -/
structure CarStatus where
  position : Nat
  motion   : Motion
  doors    : CarDoors
  mode     : ServiceMode
  fault    : Bool
  deriving DecidableEq, Repr

/-- A door node's answer: for each stair letter, whether the lock feedback of the floor's door into that
stair is UNLOCKED (R128). Only the entries of present doors are taken. -/
structure NodeFeedback where
  a : Bool
  b : Bool
  c : Bool
  d : Bool
  deriving DecidableEq, Repr

/-- How the attached store ends the write a description request makes (R3): an outside event. -/
inductive StoreWrite where
  | written | failed
  deriving DecidableEq, Repr

/-- Station, claimed level and tag of a request frame (Figure 10-3). -/
structure Header where
  station : Nat
  claimed : Level
  tag     : Nat
  deriving DecidableEq, Repr

/-- The fields of SET_BUILDING (R4): a field left out is `none` and takes its default. -/
structure BuildingLoad where
  fc            : Nat
  street        : Nat
  coreAbove     : Option Nat
  coreBelow     : Option Nat
  threshold     : Option Nat
  holdMax       : Option Nat
  drainInterval : Option Nat
  relockHold    : Option Nat
  verifyTime    : Option Nat
  recallMargin  : Option Nat
  travelTime    : Option Nat
  parkConfirm   : Option Nat
  deriving DecidableEq, Repr

/-- A description request of a record that can be removed: `none` fields are the removal form (R166). -/
structure FloorFields where
  direct    : Bool
  occupancy : Nat
  deriving DecidableEq, Repr

structure FloorLoad where
  floor  : Nat
  fields : Option FloorFields
  deriving DecidableEq, Repr

structure StairFields where
  low      : Nat
  high     : Nat
  weight   : Nat
  capacity : Nat
  drain    : Nat
  phrase   : Nat
  inUse    : Bool
  deriving DecidableEq, Repr

structure StairLoad where
  stair  : Nat
  fields : Option StairFields
  deriving DecidableEq, Repr

structure BankFields where
  p    : Nat
  q    : Nat
  low  : Nat
  high : Nat
  deriving DecidableEq, Repr

structure BankLoad where
  bank   : Nat
  fields : Option BankFields
  deriving DecidableEq, Repr

structure CarFields where
  bank    : Nat
  address : Nat
  deriving DecidableEq, Repr

structure CarLoad where
  car    : Nat
  fields : Option CarFields
  deriving DecidableEq, Repr

structure SectionLoad where
  sec      : Nat
  capacity : Option Nat
  deriving DecidableEq, Repr

structure DoorFields where
  sec     : Nat
  reentry : Bool
  deriving DecidableEq, Repr

structure DoorLoad where
  floor  : Nat
  stair  : Nat
  fields : Option DoorFields
  deriving DecidableEq, Repr

structure PhraseLoad where
  phrase : Nat
  length : Option Nat
  deriving DecidableEq, Repr

/-- SET_TEMPLATE (R11): each position is a phrase number, or `none` for the route marker. -/
structure TemplateLoad where
  template : Template
  list     : Option (List (Option Nat))
  deriving DecidableEq, Repr

structure PortLoad where
  port        : Nat
  mode        : PortMode
  low         : Nat
  high        : Nat
  debounce    : Nat
  supervision : Nat
  deriving DecidableEq, Repr

/-- The kind a SET_ZONE carries, with the field that kind has (R36, R37). -/
inductive ZoneKindLoad where
  | floor | manual
  | stair (stair : Nat)
  | shaft (bank : Nat)
  deriving DecidableEq, Repr

/-- The fields of a SET_ZONE of a defined kind (R36). -/
structure ZoneFields where
  kind  : ZoneKindLoad
  base  : Nat
  span  : Nat
  ppf   : Nat
  limit : Nat
  lock  : Nat
  deriving DecidableEq, Repr

/-- What a SET_ZONE carries after its zone (R37): the kind NONE, which carries no other field; a defined kind with the
fields it has; or bytes of a wrong form, which R37 refuses FORMAT with the descriptor as it stands (R38). -/
inductive ZoneBody where
  | undefined
  | defined (f : ZoneFields)
  | malformed
  deriving DecidableEq, Repr

/-- SET_ZONE (R37). -/
structure ZoneLoad where
  zone : Nat
  body : ZoneBody
  deriving DecidableEq, Repr

structure RangeLoad where
  port  : Nat
  first : Nat
  count : Nat
  zone  : Nat
  deriving DecidableEq, Repr

/-- A port and a point (CLEAR_RANGE, QUERY range, QUERY point). -/
structure PointRef where
  port  : Nat
  point : Nat
  deriving DecidableEq, Repr

/-- A door named by floor and stair (DOOR_COMMAND, QUERY door). -/
structure DoorRef where
  floor : Nat
  stair : Nat
  deriving DecidableEq, Repr

structure StairUse where
  stair : Nat
  inUse : Bool
  deriving DecidableEq, Repr

structure DrillStart where
  floor  : Nat
  lifts  : Bool
  deriving DecidableEq, Repr

structure Scan where
  phase      : Phase
  comparison : Comparison
  deriving DecidableEq, Repr

structure OccupancySet where
  floor : Nat
  value : Nat
  deriving DecidableEq, Repr

structure OccupancyAdjust where
  floor : Nat
  delta : Int
  deriving DecidableEq, Repr

structure Announcement where
  floors  : List Nat
  phrases : List Nat
  times   : Nat
  gap     : Nat
  expiry  : Nat
  deriving DecidableEq, Repr

/-- The commands: one constructor per row of spec/opcode_table.json, in the table's order. -/
inductive Instr where
  /-- COLD_START (R14): whether the store answers, and whether the check of each group passes. -/
  | coldStart (answers buildingGood inputGood mapGood : Bool)
  | status (l : Link) (h : Header) (b : Option Unit)
  | fetchReports (l : Link) (h : Header) (b : Option Unit)
  | queryFloor (l : Link) (h : Header) (b : Option Nat)
  | queryStair (l : Link) (h : Header) (b : Option Nat)
  | queryCar (l : Link) (h : Header) (b : Option Nat)
  | queryBank (l : Link) (h : Header) (b : Option Nat)
  | queryDoor (l : Link) (h : Header) (b : Option DoorRef)
  | querySection (l : Link) (h : Header) (b : Option Nat)
  | queryZone (l : Link) (h : Header) (b : Option Nat)
  | queryRange (l : Link) (h : Header) (b : Option PointRef)
  | queryIncident (l : Link) (h : Header) (b : Option Nat)
  | queryInstance (l : Link) (h : Header) (b : Option Nat)
  | queryPort (l : Link) (h : Header) (b : Option Nat)
  | queryPoint (l : Link) (h : Header) (b : Option PointRef)
  | scanFloors (l : Link) (h : Header) (b : Option Scan)
  | setOccupancy (l : Link) (h : Header) (b : Option OccupancySet)
  | adjustOccupancy (l : Link) (h : Header) (b : Option OccupancyAdjust)
  | setBuilding (l : Link) (h : Header) (w : StoreWrite) (b : Option BuildingLoad)
  | setFloor (l : Link) (h : Header) (w : StoreWrite) (b : Option FloorLoad)
  | setStair (l : Link) (h : Header) (w : StoreWrite) (b : Option StairLoad)
  | setBank (l : Link) (h : Header) (w : StoreWrite) (b : Option BankLoad)
  | setCar (l : Link) (h : Header) (w : StoreWrite) (b : Option CarLoad)
  | setSection (l : Link) (h : Header) (w : StoreWrite) (b : Option SectionLoad)
  | setDoor (l : Link) (h : Header) (w : StoreWrite) (b : Option DoorLoad)
  | setPhrase (l : Link) (h : Header) (w : StoreWrite) (b : Option PhraseLoad)
  | setTemplate (l : Link) (h : Header) (w : StoreWrite) (b : Option TemplateLoad)
  | setPort (l : Link) (h : Header) (w : StoreWrite) (b : Option PortLoad)
  | setZone (l : Link) (h : Header) (w : StoreWrite) (b : Option ZoneLoad)
  | setRange (l : Link) (h : Header) (w : StoreWrite) (b : Option RangeLoad)
  | clearRange (l : Link) (h : Header) (w : StoreWrite) (b : Option PointRef)
  | isolateZone (l : Link) (h : Header) (w : StoreWrite) (b : Option Nat)
  | restoreZone (l : Link) (h : Header) (w : StoreWrite) (b : Option Nat)
  | stairUse (l : Link) (h : Header) (w : StoreWrite) (b : Option StairUse)
  | relatch (l : Link) (h : Header) (b : Option Nat)
  | panelReset (l : Link) (h : Header) (b : Option Nat)
  | startDrill (l : Link) (h : Header) (b : Option DrillStart)
  | endDrill (l : Link) (h : Header) (b : Option Unit)
  | general (l : Link) (h : Header) (b : Option Unit)
  | standDown (l : Link) (h : Header) (b : Option Unit)
  | floorCommandEvacuate (l : Link) (h : Header) (b : Option Nat)
  | floorCommandDefend (l : Link) (h : Header) (b : Option Nat)
  | floorCommandAlert (l : Link) (h : Header) (b : Option Nat)
  | doorCommandForce (l : Link) (h : Header) (b : Option DoorRef)
  | doorCommandHold (l : Link) (h : Header) (b : Option DoorRef)
  | doorCommandNormal (l : Link) (h : Header) (b : Option DoorRef)
  | doorCommandRetry (l : Link) (h : Header) (b : Option DoorRef)
  | carCommandRecall (l : Link) (h : Header) (b : Option Nat)
  | carCommandReturn (l : Link) (h : Header) (b : Option Nat)
  | announce (l : Link) (h : Header) (b : Option Announcement)
  | cancelAnnounce (l : Link) (h : Header) (b : Option Nat)
  | invalidKind (l : Link) (h : Header) (kind : Nat)
  | badClaimedLevel (l : Link) (station tag kind : Nat)
  | frameCrcDiscard (l : Link)
  | frameHeldDiscard (l : Link)
  | heldFrameTaken (l : Link)
  | lineBreak (l : Link)
  | receiverSilenceExpiry (l : Link)
  | measuredClassChange (p : Port) (input : Nat) (measured : LineClass)
  | debounceExpiry (p : Port) (input : Nat)
  | pointEvent (p : Port) (point : Nat) (c : PanelCondition)
  | panelRecordDiscarded (p : Port)
  | pollTimerExpiry (p : Port)
  | pollAnswer (p : Port)
  | answerTimerExpiry (p : Port)
  | listRecord (p : Port) (point : Nat) (c : ListCondition)
  | listEnd (p : Port)
  | resyncTimerExpiry (p : Port)
  | resetDone (p : Port)
  | resetTimerExpiry (p : Port)
  | holdTimerExpiry (floor : Nat)
  | drainTimerExpiry
  | carPoll
  | carStatusRecord (car : Nat) (record : CarStatus)
  | carSilenceExpiry (car : Nat)
  | travelTimerExpiry (car : Nat)
  | parkConfirmExpiry (car : Nat)
  | doorLoopPoll
  | nodeAnswer (floor : Nat) (unlocked : NodeFeedback)
  | nodeSilenceExpiry (floor : Nat)
  | supplyUnitAnswer (sec : Nat) (ok : Bool)
  | supplySilenceExpiry (sec : Nat)
  | releaseVerifyExpiry (floor : Nat) (stair : Stair)
  | lockVerifyExpiry (floor : Nat) (stair : Stair)
  | relockHoldExpiry
  | phraseEnd (engine : Nat)
  | gapTimerExpiry (number : Nat)
  | tenantExpiry (number : Nat)
  | zoneLineFault (floor : Nat)
  | zoneLineRestored (floor : Nat)
  | byteTaken (l : Link) (byte : Byte) (w : StoreWrite)
  deriving DecidableEq, Repr

end Sys2Proof
end

