-- ==== Sys2Proof/WellFormed.lean ====
section
/-! DEFINITION. Which commands are well formed: every operand fits the field that carries it (Figures 10-3
and 10-6, R166), and every equipment event names a thing that exists (spec/00 0.5). Whether a well-formed
request is accepted is for its meaning to say. -/

namespace Sys2Proof

/-- A field carried in one byte. -/
def fitsByte (n : Nat) : Bool := n < 256

/-- A field carried in two bytes. -/
def fitsWord (n : Nat) : Bool := n < 65536

/-- A body that is present is judged by its fields; one of another form has none. -/
def bodyFits {α : Type} (b : Option α) (ok : α → Bool) : Bool :=
  match b with
  | none => true
  | some x => ok x

/-- Station 0 to 15, tag 0 to 255 (Figure 10-3). -/
def Header.wf (h : Header) : Bool := h.station < 16 && fitsByte h.tag

/-- An optional field left out is carried as all ones, so a value carried is below that (Figure 10-6). -/
def optByte (o : Option Nat) : Bool := bodyFits o fun n => n < 255

def optWord (o : Option Nat) : Bool := bodyFits o fun n => n < 65535

def BuildingLoad.wf (b : BuildingLoad) : Bool :=
  fitsWord b.fc && fitsByte b.street && optByte b.coreAbove && optByte b.coreBelow && optByte b.threshold
    && optWord b.holdMax && optByte b.drainInterval && optWord b.relockHold && optByte b.verifyTime
    && optByte b.recallMargin && optByte b.travelTime && optByte b.parkConfirm

def FloorLoad.wf (b : FloorLoad) : Bool :=
  fitsByte b.floor && bodyFits b.fields fun f => fitsWord f.occupancy

def StairLoad.wf (b : StairLoad) : Bool :=
  fitsByte b.stair && bodyFits b.fields fun f =>
    fitsByte f.low && fitsByte f.high && fitsByte f.weight && fitsWord f.capacity && fitsByte f.drain
      && fitsWord f.phrase

def BankLoad.wf (b : BankLoad) : Bool :=
  fitsByte b.bank && bodyFits b.fields fun f => fitsByte f.p && fitsByte f.q && fitsByte f.low && fitsByte f.high

def CarLoad.wf (b : CarLoad) : Bool :=
  fitsByte b.car && bodyFits b.fields fun f => fitsByte f.bank && fitsByte f.address

def SectionLoad.wf (b : SectionLoad) : Bool := fitsByte b.sec && bodyFits b.capacity fitsByte

def DoorLoad.wf (b : DoorLoad) : Bool :=
  fitsByte b.floor && fitsByte b.stair && bodyFits b.fields fun f => fitsByte f.sec

def PhraseLoad.wf (b : PhraseLoad) : Bool := fitsWord b.phrase && bodyFits b.length fitsByte

/-- A list length is carried as 0 to 15 for 1 to 16, and the route marker as the phrase number FFFF. -/
def TemplateLoad.wf (b : TemplateLoad) : Bool :=
  bodyFits b.list fun l => 1 ≤ l.length && l.length ≤ 16 && l.all fun p => bodyFits p fun n => n < 65535

def PortLoad.wf (b : PortLoad) : Bool :=
  fitsByte b.port && fitsByte b.low && fitsByte b.high && fitsByte b.debounce && fitsByte b.supervision

def ZoneKindLoad.wf (k : ZoneKindLoad) : Bool :=
  match k with
  | .floor => true
  | .manual => true
  | .stair s => fitsByte s
  | .shaft b => fitsByte b

/-- Span is carried as 0 to 7, so it lies within 1 to 8 (Figure 10-6). -/
def ZoneLoad.wf (b : ZoneLoad) : Bool :=
  fitsByte b.zone && match b.body with
    | .undefined => true
    | .defined f =>
      f.kind.wf && fitsByte f.base && 1 ≤ f.span && f.span ≤ 8 && fitsByte f.ppf && fitsWord f.limit
        && fitsByte f.lock
    | .malformed => true

def RangeLoad.wf (b : RangeLoad) : Bool :=
  fitsByte b.port && fitsWord b.first && fitsWord b.count && fitsByte b.zone

def PointRef.wf (b : PointRef) : Bool := fitsByte b.port && fitsWord b.point

def DoorRef.wf (b : DoorRef) : Bool := fitsByte b.floor && fitsByte b.stair

def Announcement.wf (b : Announcement) : Bool :=
  fitsByte b.floors.length && b.floors.all fitsByte && 1 ≤ b.phrases.length && b.phrases.length ≤ 16
    && b.phrases.all fitsWord && fitsByte b.times && fitsByte b.gap && fitsWord b.expiry

/-- The commands whose operands all fit. -/
def Instr.wf (i : Instr) : Bool :=
  match i with
  | .coldStart _ _ _ _ => true
  | .status _ h _ | .fetchReports _ h _ | .endDrill _ h _ | .general _ h _ | .standDown _ h _ => h.wf
  | .queryFloor _ h b | .queryStair _ h b | .queryCar _ h b | .queryBank _ h b | .querySection _ h b
  | .queryZone _ h b | .queryIncident _ h b | .queryInstance _ h b | .queryPort _ h b => h.wf && bodyFits b fitsByte
  | .queryDoor _ h b => h.wf && bodyFits b DoorRef.wf
  | .queryRange _ h b | .queryPoint _ h b => h.wf && bodyFits b PointRef.wf
  | .scanFloors _ h _ => h.wf
  | .setOccupancy _ h b => h.wf && bodyFits b fun x => fitsByte x.floor && fitsWord x.value
  | .adjustOccupancy _ h b => h.wf && bodyFits b fun x => fitsByte x.floor && -32768 ≤ x.delta && x.delta < 32768
  | .setBuilding _ h _ b => h.wf && bodyFits b BuildingLoad.wf
  | .setFloor _ h _ b => h.wf && bodyFits b FloorLoad.wf
  | .setStair _ h _ b => h.wf && bodyFits b StairLoad.wf
  | .setBank _ h _ b => h.wf && bodyFits b BankLoad.wf
  | .setCar _ h _ b => h.wf && bodyFits b CarLoad.wf
  | .setSection _ h _ b => h.wf && bodyFits b SectionLoad.wf
  | .setDoor _ h _ b => h.wf && bodyFits b DoorLoad.wf
  | .setPhrase _ h _ b => h.wf && bodyFits b PhraseLoad.wf
  | .setTemplate _ h _ b => h.wf && bodyFits b TemplateLoad.wf
  | .setPort _ h _ b => h.wf && bodyFits b PortLoad.wf
  | .setZone _ h _ b => h.wf && bodyFits b ZoneLoad.wf
  | .setRange _ h _ b => h.wf && bodyFits b RangeLoad.wf
  | .clearRange _ h _ b => h.wf && bodyFits b PointRef.wf
  | .isolateZone _ h _ b | .restoreZone _ h _ b => h.wf && bodyFits b fitsByte
  | .stairUse _ h _ b => h.wf && bodyFits b fun x => fitsByte x.stair
  | .relatch _ h b | .panelReset _ h b => h.wf && bodyFits b fitsByte
  | .startDrill _ h b => h.wf && bodyFits b fun x => fitsByte x.floor
  | .floorCommandEvacuate _ h b | .floorCommandDefend _ h b | .floorCommandAlert _ h b => h.wf && bodyFits b fitsByte
  | .doorCommandForce _ h b | .doorCommandHold _ h b | .doorCommandNormal _ h b | .doorCommandRetry _ h b =>
    h.wf && bodyFits b DoorRef.wf
  | .carCommandRecall _ h b | .carCommandReturn _ h b => h.wf && bodyFits b fitsByte
  | .announce _ h b => h.wf && bodyFits b Announcement.wf
  | .cancelAnnounce _ h b => h.wf && bodyFits b fitsByte
  | .invalidKind _ h kind => h.wf && fitsByte kind && (kind == 0 || 33 < kind)
  | .badClaimedLevel _ station tag kind => station < 16 && fitsByte tag && fitsByte kind
  | .frameCrcDiscard _ | .frameHeldDiscard _ | .heldFrameTaken _ | .lineBreak _ | .receiverSilenceExpiry _ => true
  | .measuredClassChange _ input _ | .debounceExpiry _ input => 1 ≤ input && input ≤ 32
  | .pointEvent _ point _ => fitsWord point
  | .listRecord _ point _ => fitsWord point
  | .panelRecordDiscarded _ | .pollTimerExpiry _ | .pollAnswer _ | .answerTimerExpiry _ | .listEnd _
  | .resyncTimerExpiry _ | .resetDone _ | .resetTimerExpiry _ => true
  | .holdTimerExpiry floor => floor < 48
  | .drainTimerExpiry | .carPoll | .doorLoopPoll | .relockHoldExpiry => true
  | .carStatusRecord car record => 1 ≤ car && car ≤ 8 && fitsByte record.position
  | .carSilenceExpiry car | .travelTimerExpiry car | .parkConfirmExpiry car => 1 ≤ car && car ≤ 8
  | .nodeAnswer floor _ | .nodeSilenceExpiry floor => floor < 48
  | .supplyUnitAnswer sec _ | .supplySilenceExpiry sec => 1 ≤ sec && sec ≤ 8
  | .releaseVerifyExpiry floor _ | .lockVerifyExpiry floor _ => floor < 48
  | .phraseEnd engine => 1 ≤ engine && engine ≤ 4
  | .gapTimerExpiry number | .tenantExpiry number => 1 ≤ number && number ≤ 32
  | .zoneLineFault floor | .zoneLineRestored floor => floor < 48
  | .byteTaken _ _ _ => true

end Sys2Proof
end

