-- ==== Sys2Proof/Machine/Table.lean ====
section
/-! DEFINITION. Keyed records in one canonical form: rows by strictly rising key. A table of records that are
present or not holds a row for each one present; a table of records that always exist holds a row only
for each one that differs from its default. So equal contents are equal data. -/

namespace Sys2Proof.Machine

/-- Rows by rising key. -/
structure Table (α : Type) where
  rows : List (Nat × α)
  deriving DecidableEq, Repr

namespace Table

variable {α : Type}

/-- A table with no row. -/
def empty : Table α := ⟨[]⟩

/-- The value of the row of key `k` among rows. -/
def findRow (k : Nat) : List (Nat × α) → Option α
  | [] => none
  | (j, v) :: rest => if j = k then some v else findRow k rest

/-- The row put in its place by key, in the stead of the row that has the key. -/
def putRow (k : Nat) (v : α) : List (Nat × α) → List (Nat × α)
  | [] => [(k, v)]
  | (j, w) :: rest =>
    if k < j then (k, v) :: (j, w) :: rest
    else if k = j then (k, v) :: rest
    else (j, w) :: putRow k v rest

/-- The rows without the row of key `k`. -/
def dropRow (k : Nat) : List (Nat × α) → List (Nat × α)
  | [] => []
  | (j, w) :: rest => if j = k then rest else (j, w) :: dropRow k rest

/-- The record of key `k`, if there is one. -/
def get (t : Table α) (k : Nat) : Option α := findRow k t.rows

/-- Whether a record of key `k` is present. -/
def has (t : Table α) (k : Nat) : Bool := (t.get k).isSome

/-- The table with the record of key `k` present as `v`. -/
def put (t : Table α) (k : Nat) (v : α) : Table α := ⟨putRow k v t.rows⟩

/-- The table without a record of key `k`. -/
def drop (t : Table α) (k : Nat) : Table α := ⟨dropRow k t.rows⟩

/-- The record of key `k` in a table whose unlisted records are `d`. -/
def read (t : Table α) (d : α) (k : Nat) : α := (t.get k).getD d

/-- The record of key `k` becomes `v` in a table whose unlisted records are `d`. -/
def write [DecidableEq α] (t : Table α) (d : α) (k : Nat) (v : α) : Table α :=
  if v = d then t.drop k else t.put k v

/-- The keys of the rows, rising. -/
def keys (t : Table α) : List Nat := t.rows.map (·.1)

/-- Every record present changed by `f`. -/
def map (t : Table α) (f : Nat → α → α) : Table α := ⟨t.rows.map fun r => (r.1, f r.1 r.2)⟩

/-- Whether the keys rise strictly: the canonical form of a table of records present or not. -/
def sorted : List Nat → Bool
  | [] => true
  | [_] => true
  | j :: k :: rest => j < k && sorted (k :: rest)

/-- The canonical form of a table of records that are present or not. -/
def wf (t : Table α) : Bool := sorted t.keys

/-- The canonical form of a table whose unlisted records are `d`. -/
def wfDefault [DecidableEq α] (t : Table α) (d : α) : Bool := t.wf && t.rows.all fun r => decide (r.2 ≠ d)

end Table

end Sys2Proof.Machine
end

