-- ==== Sys2Proof/Machine/State.lean ====
section
/-! DEFINITION. The state of the coordinator as plain data, division by division, the reports and orders it
makes, and the machine right after reset. A running timer is `some t`, `t` the clock value (tenths of a
second since cold start) at which it is due; `none` is a timer that does not run. -/

namespace Sys2Proof.Machine

/-! ## The description (Section 1) -/

/-- The building record (R4). -/
structure Building where
  fc            : Nat
  street        : Nat
  coreAbove     : Nat
  coreBelow     : Nat
  threshold     : Nat
  holdMax       : Nat
  drainInterval : Nat
  relockHold    : Nat
  verifyTime    : Nat
  recallMargin  : Nat
  travelTime    : Nat
  parkConfirm   : Nat
  deriving DecidableEq, Repr

/-- A floor record of the description (R6). -/
structure FloorRec where
  direct    : Bool
  occupancy : Nat
  deriving DecidableEq, Repr

/-- A stair record (R7). -/
structure StairRec where
  low      : Nat
  high     : Nat
  weight   : Nat
  capacity : Nat
  drain    : Nat
  phrase   : Nat
  inUse    : Bool
  deriving DecidableEq, Repr

/-- A bank record (R8). -/
structure BankRec where
  p    : Nat
  q    : Nat
  low  : Nat
  high : Nat
  deriving DecidableEq, Repr

/-- A car record (R8). -/
structure CarRec where
  bank    : Bank
  address : Nat
  deriving DecidableEq, Repr

/-- A door record (R9); its node is the node of its floor. -/
structure DoorRec where
  sec     : Nat
  reentry : Bool
  deriving DecidableEq, Repr

/-- The BUILDING group (R1): floor records by floor, stairs by stair number 1 to 4, banks 1 and 2, cars 1 to
8, section capacities by section 1 to 8, doors by door number, phrase lengths by phrase number, and
template lists by the template's place in R11, each position a phrase or `none` for the route marker. -/
structure BuildingGroup where
  building  : Option Building
  floors    : Table FloorRec
  stairs    : Table StairRec
  banks     : Table BankRec
  cars      : Table CarRec
  sections  : Table Nat
  doors     : Table DoorRec
  phrases   : Table Nat
  templates : Table (List (Option Nat))
  deriving DecidableEq, Repr

/-- A port record (R12); a range of `none` is "whole building". -/
structure PortRec where
  mode        : PortMode
  range       : Option (Nat × Nat)
  debounce    : Nat
  supervision : Nat
  deriving DecidableEq, Repr

/-- The INPUT group (R12): port records by port number 1 to 4; an unlisted one is the default. -/
structure InputGroup where
  ports : Table PortRec
  deriving DecidableEq, Repr

/-- The kind of a zone or an incident, with the stair or bank where the kind has one (R36, R54). -/
inductive IncidentKind where
  | floor | manual
  | stair (s : Stair)
  | shaft (b : Bank)
  deriving DecidableEq, Repr

/-- The fields a zone descriptor of a defined kind has (R36). -/
structure Area where
  kind  : IncidentKind
  base  : Nat
  span  : Nat
  ppf   : Nat
  limit : Nat
  deriving DecidableEq, Repr

/-- A zone descriptor (R36); an absent area is the kind NONE. -/
structure Zone where
  area     : Option Area
  lock     : Nat
  isolated : Bool
  revision : BitVec 16
  deriving DecidableEq, Repr

/-- A range of the range table (R39). -/
structure Range where
  port  : Port
  first : Nat
  count : Nat
  zone  : Nat
  deriving DecidableEq, Repr

/-- The MAP group (R13): zones by number (an unlisted one is undefined), and the range table. -/
structure MapGroup where
  zones  : Table Zone
  ranges : List Range
  deriving DecidableEq, Repr

/-- The store groups (R1). -/
inductive StoreGroup where
  | building | input | map
  deriving DecidableEq, Repr

/-- The keeping state of a store group (R3). -/
inductive Keeping where
  | kept | defaulted | unkept
  deriving DecidableEq, Repr

/-- The nonvolatile store: each group as it was last written (R3). -/
structure Store where
  building : BuildingGroup
  input    : InputGroup
  map      : MapGroup
  deriving DecidableEq, Repr

/-- The description in use, with the keeping state of each group and the fallback indication (R3, R13). -/
structure Description where
  building     : BuildingGroup
  input        : InputGroup
  map          : MapGroup
  keepBuilding : Keeping
  keepInput    : Keeping
  keepMap      : Keeping
  fallback     : Bool
  deriving DecidableEq, Repr

/-! ## Point Input Unit (Section 2) -/

/-- The state of a port (R18). -/
inductive PortState where
  | starting | supervised | unsupervised | resetting
  deriving DecidableEq, Repr

/-- A candidate class: the class, when it was last measured, and its debounce timer (R22). R22 gives the time no unit: it is a
value of the seconds count, as Section 0.5 says of every recorded time (DEDUCED, notes/assumptions/32.md). -/
structure Candidate where
  cls      : LineClass
  measured : Seconds
  due      : Nat
  deriving DecidableEq, Repr

/-- A contact input: its held class and its candidate class, if any (R22). -/
structure Input where
  held      : LineClass
  candidate : Option Candidate
  deriving DecidableEq, Repr

/-- A resynchronisation record: the named set, rising, and the timer (R27, R28). -/
structure Resync where
  named : List Nat
  timer : Nat
  deriving DecidableEq, Repr

/-- A live port record (R18). A poll is outstanding exactly while the answer timer runs (R25). -/
structure PortLive where
  state       : PortState
  missed      : Nat
  pollTimer   : Option Nat
  answerTimer : Option Nat
  resync      : Option Resync
  resetTimer  : Option Nat
  inputs      : Table Input
  deriving DecidableEq, Repr

/-- The condition of a point (R19). -/
inductive Condition where
  | normal | alarm | fault
  deriving DecidableEq, Repr

/-- A point state record (R19); incident 0 is none. -/
structure PointRec where
  condition : Condition
  short     : Bool
  incident  : Nat
  changed   : Seconds
  deriving DecidableEq, Repr

/-- The Point Input Unit: live ports by port number, points by `pointKey`. -/
structure PanelUnit where
  ports  : Table PortLive
  points : Table PointRec
  deriving DecidableEq, Repr

/-! ## Regime Controller (Section 4) -/

/-- The regime (R52). -/
inductive Regime where
  | normal | alarm | general | standdown
  deriving DecidableEq, Repr

/-- The cause of a change of regime, in the order of R53. -/
inductive RegimeCause where
  | incident | threshold | listFull | request | standDown | drillEnd | ret
  deriving DecidableEq, Repr

/-- The copy of a zone descriptor taken into an incident (R43, R54). -/
structure Latched where
  kind     : IncidentKind
  base     : Nat
  span     : Nat
  ppf      : Nat
  revision : BitVec 16
  deriving DecidableEq, Repr

/-- An incident record (R54). -/
structure Incident where
  number  : Nat
  zone    : Nat
  kind    : IncidentKind
  latched : Option Latched
  first   : Nat
  count   : Nat
  origin  : Option (Port × Nat)
  opened  : Seconds
  points  : Nat
  clear   : Bool
  stale   : Bool
  drill   : Bool
  deriving DecidableEq, Repr

/-- The Regime Controller (R52); the incidents stand in order of opening time. -/
structure RegimeUnit where
  regime         : Regime
  drill          : Bool
  liftsIncluded  : Bool
  relockComplete : Bool
  incidents      : List Incident
  nextNumber     : Nat
  deriving DecidableEq, Repr

/-! ## Evacuation Controller (Section 5) -/

/-- A floor's route (R75): empty, a set of stairs in ascending letter, or the direct exit. -/
inductive Route where
  | empty
  | stairs (l : List Stair)
  | direct
  deriving DecidableEq, Repr

/-- A floor record of the Evacuation Controller (R73). The queue entry stands in the queue. The committed
shares are the stairs that have one, in ascending letter, with the persons. -/
structure Floor where
  phase     : Phase
  core      : Bool
  route     : Route
  shares    : List (Stair × Nat)
  occupancy : Nat
  phaseTime : Seconds
  deriving DecidableEq, Repr

/-- An entry of the evacuation queue (R80) with its hold timer (R81). -/
structure QueueEntry where
  floor    : Nat
  entry    : Seconds
  deadline : Seconds
  timer    : Nat
  deriving DecidableEq, Repr

/-- The Evacuation Controller: floor records by floor, and the queue from its head. -/
structure EvacUnit where
  floors : Table Floor
  queue  : List QueueEntry
  deriving DecidableEq, Repr

/-- The cause of a change of phase, in the order of R76. -/
inductive PhaseCause where
  | core | fit | direct | noStair | hold | general | command | stair
  deriving DecidableEq, Repr

/-! ## Stair Load Unit (Section 6) -/

/-- A live stair record (R94). The compromised flag is kept whether or not the stair record is present. -/
structure StairLive where
  load        : Nat
  saturated   : Bool
  compromised : Bool
  deriving DecidableEq, Repr

/-- The Stair Load Unit: live records by stair number 1 to 4, and the drain timer (R99). -/
structure StairUnit where
  live       : Table StairLive
  drainTimer : Option Nat
  deriving DecidableEq, Repr

/-- Why a stair became unavailable (R103). -/
inductive StairCause where
  | compromised | outOfUse
  deriving DecidableEq, Repr

/-! ## Lift Recall Unit (Section 7) -/

/-- The state of a car (R110). -/
inductive CarState where
  | auto | recalling | parked | firefighter | shutdown | faulted | exempt
  deriving DecidableEq, Repr

/-- Why a car is held FAULTED (R110). -/
inductive FaultCause where
  | equipCheck | link | controller | doors
  deriving DecidableEq, Repr

/-- A recall run (R114). -/
structure Run where
  target      : Nat
  budget      : Nat
  passes      : Nat
  travelTimer : Option Nat
  parkTimer   : Option Nat
  redirects   : Nat
  start       : Seconds
  deriving DecidableEq, Repr

/-- A live car record (R110). The car's link is silent while its silence timer does not run (R111).
`holdAgain` is set from the car's fall to FAULTED with cause LINK until its next status record, which
sends HOLD again (R111). `reported` is the floor the last status record showed, accepted or not, which the stop of
R116 is held against. -/
structure CarLive where
  state      : CarState
  cause      : Option FaultCause
  awaiting   : Bool
  position   : Option Nat
  reported   : Option Nat
  motion     : Option Motion
  doors      : Option CarDoors
  mode       : Option ServiceMode
  outOfRange : Bool
  parked     : Option Nat
  run        : Option Run
  silence    : Option Nat
  holdAgain  : Bool
  deriving DecidableEq, Repr

/-- A live bank record (R109). The shaft flag is kept whether or not the bank record is present. -/
structure BankLive where
  pBarred      : Bool
  qBarred      : Bool
  bothReported : Bool
  shaft        : Bool
  deriving DecidableEq, Repr

/-- The Lift Recall Unit: live banks by bank number, live cars by car number, the car poll timer (R111). -/
structure LiftUnit where
  banks     : Table BankLive
  cars      : Table CarLive
  pollTimer : Nat
  deriving DecidableEq, Repr

/-! ## Door Release Unit (Section 8) -/

/-- The state of a door (R126). A door has demand in every state but LOCKED. -/
inductive DoorState where
  | locked | waiting | releasing | released | stuck
  deriving DecidableEq, Repr

/-- A door's override (R126). -/
inductive Override where
  | none | holdLocked | forceReleased
  deriving DecidableEq, Repr

/-- A door's lock feedback (R126). -/
inductive Feedback where
  | locked | unlocked | unknown
  deriving DecidableEq, Repr

/-- What a verify timer runs for (R126). -/
inductive Verify where
  | release | lock
  deriving DecidableEq, Repr

/-- A live door record (R126). -/
structure DoorLive where
  state     : DoorState
  override  : Override
  cls       : Option Nat
  demanded  : Option Seconds
  granted   : Option Seconds
  retryUsed : Bool
  feedback  : Feedback
  verify    : Option (Verify × Nat)
  deriving DecidableEq, Repr

/-- A live section record (R127): supply state, whether the supply unit has answered since the record was
made (R136), the grant set in order of grant and the waiting list in its order, both door numbers, and
the supply unit's silence timer (R128). -/
structure SectionLive where
  ok       : Bool
  answered : Bool
  grants   : List Nat
  waiting  : List Nat
  silence  : Option Nat
  deriving DecidableEq, Repr

/-- A door node (R128). It is silent from the expiry of its silence timer to its next answer. -/
structure NodeLive where
  silence : Option Nat
  silent  : Bool
  deriving DecidableEq, Repr

/-- The Door Release Unit: live doors by door number, live sections, nodes in use by floor, the general
demand flag (R130), the relock hold timer (R139) and the door loop's poll timer (R128). -/
structure DoorUnit where
  doors       : Table DoorLive
  sections    : Table SectionLive
  nodes       : Table NodeLive
  general     : Bool
  relockTimer : Option Nat
  pollTimer   : Nat
  deriving DecidableEq, Repr

/-! ## Announcement Unit (Section 9) -/

/-- The kinds of program instance (R142). -/
inductive ProgKind where
  | alert | evacuate | defend | allclear | tenant
  deriving DecidableEq, Repr

/-- The fire content of a floor: a kind and a phrase list (R142). -/
structure Content where
  kind    : ProgKind
  phrases : List Nat
  deriving DecidableEq, Repr

/-- The states an instance of the table can be in (R143); ENDED is never seen in the table. -/
inductive ProgState where
  | waiting | playing | yielding | gap | suspended
  deriving DecidableEq, Repr

/-- A program instance (R143). Its listener floors are those whose floor entry names it. `phraseTimer` runs
while a phrase plays, `gapTimer` in GAP. -/
structure Prog where
  kind        : ProgKind
  phrases     : List Nat
  times       : Nat
  remaining   : Option Nat
  index       : Nat
  gap         : Nat
  state       : ProgState
  engine      : Option Nat
  started     : Bool
  expiring    : Bool
  created     : Seconds
  start       : Option Seconds
  phraseTimer : Option Nat
  gapTimer    : Option Nat
  deriving DecidableEq, Repr

/-- Placement of a floor (R141, R145). -/
inductive Placement where
  | normal | fallback | unplaced
  deriving DecidableEq, Repr

/-- A floor entry of the Announcement Unit (R141). A floor with a program is CONNECTED or, else, PENDING. -/
structure FloorEntry where
  content   : Option Content
  prog      : Option Nat
  connected : Bool
  placement : Placement
  fault     : Bool
  deriving DecidableEq, Repr

/-- A tenant list entry (R152); an expiry of `none` is absent. -/
structure TenantEntry where
  prog    : Nat
  station : Nat
  floors  : List Nat
  phrases : List Nat
  times   : Nat
  gap     : Nat
  expiry  : Option Nat
  timer   : Option Nat
  deriving DecidableEq, Repr

/-- The Announcement Unit (R141). `noticed` holds the floors whose notices are still to be taken in the event
in progress (R144); it is the model's own field and is empty between events. -/
structure AudioUnit where
  progs     : Table Prog
  floors    : Table FloorEntry
  tenants   : List TenantEntry
  drillCopy : Bool
  noticed   : List Nat
  deriving DecidableEq, Repr

/-! ## Reports and orders -/

/-- The reason an alarm could not be located (R42, R43). -/
inductive Unlocated where
  | noRange | nullZone | undefined | limit | span
  deriving DecidableEq, Repr

/-- The reports of every division, with the contents their tables give (R17, R34, R51, R72, R93, R108, R125,
R140, R155). Stair reports carry the load and the clear time after the stair. -/
inductive Report where
  | notActed (p : Port) (n : Nat)
  | groupDefaulted (g : StoreGroup)
  | groupNotKept (g : StoreGroup)
  | storeRestored
  | storeNotAnswering
  | pointFault (p : Port) (n : Nat)
  | pointFaultCleared (p : Port) (n : Nat)
  | portUnsupervised (p : Port)
  | resetAbandoned (p : Port)
  | portSupervised (p : Port)
  | resyncRepeated (p : Port)
  | resetDone (p : Port)
  | resetTimedOut (p : Port)
  | isolatedAlarm (zone : Nat) (p : Port) (n : Nat)
  | unlocated (p : Port) (n : Nat) (reason : Unlocated)
  | incidentOpened (number zone : Nat) (kind : IncidentKind) (first count : Nat) (origin : Port × Nat)
  | incidentExtended (number : Nat) (p : Port) (n : Nat)
  | incidentNotRecorded (zone first count : Nat) (origin : Port × Nat)
  | incidentClear (number : Nat)
  | incidentStale (number zone : Nat) (latched revised : BitVec 16)
  | incidentRelatched (number oldZone oldFirst oldCount newZone newFirst newCount : Nat)
  | incidentsMerged (remaining removed : Nat)
  | regimeChanged (old new : Regime) (cause : RegimeCause)
  | drillStarted (number floor : Nat) (lifts : Bool)
  | drillEnded (number : Nat)
  | drillEndedIntoLive (number : Nat)
  | floorPromoted (floor : Nat) (phase : Phase) (route : Route) (cause : PhaseCause)
  | floorCommanded (floor : Nat) (phase : Phase) (route : Route) (cause : PhaseCause)
  | floorsAlerted (first number last : Nat)
  | floorsStoodDown (number : Nat)
  | floorNormal (floor : Nat)
  | floorSentToDefend (floor : Nat) (phase : Phase) (route : Route) (cause : PhaseCause)
  | stairSaturated (s : Stair) (load clear floor lost : Nat)
  | saturationEnded (s : Stair) (load clear : Nat)
  | stairCompromised (s : Stair) (load clear incident : Nat)
  | stairOutOfUse (s : Stair) (load clear : Nat)
  | stairInUse (s : Stair) (load clear : Nat)
  | stairUnavailable (s : Stair) (load clear : Nat) (cause : StairCause) (reduced defended : Nat)
  | stairAvailable (s : Stair) (load clear promoted : Nat)
  | compromiseCleared (s : Stair) (load clear : Nat)
  | bothBarred (b : Bank) (p q : Nat)
  | linkLost (car : Nat) (position : Option Nat)
  | linkRestored (car : Nat) (position : Option Nat)
  | positionOutOfRange (car floor : Nat)
  | carState (car : Nat) (old new : CarState) (cause : Option FaultCause)
  | faultFirefighterCar (car : Nat)
  | keyShutDownCar (car : Nat)
  | runStarted (car target budget : Nat)
  | runEndedAbnormally (car : Nat) (cause : FaultCause) (position : Option Nat) (passes budget : Nat)
  | carParked (car floor passes redirects : Nat)
  | carShutDown (car floor passes redirects : Nat)
  | parkedCarMoved (car oldFloor target : Nat)
  | runAbandoned (car : Nat) (into : CarState)
  | runRedirected (car oldTarget newTarget budget redirects : Nat)
  | shaftFlagSet (b : Bank) (incident : Nat)
  | shaftFlagCleared (b : Bank)
  | shaftFireFirefighterCar (car : Nat)
  | carsReleased (number : Nat)
  | nodeSilent (floor : Nat)
  | nodeRestored (floor : Nat)
  | lockUnconfirmed (door : Nat) (feedback : Feedback)
  | doorRelocked (door : Nat)
  | releaseStarted (number : Nat)
  | doorPreempted (door displacing : Nat)
  | doorStuck (door : Nat)
  | lateUnlock (door : Nat) (outcome : DoorState)
  | supplyFault (sec : Nat) (silent : Bool) (dropped : Nat)
  | supplyRestored (sec : Nat)
  | relockHoldStarted (due : Seconds)
  | relockDone (number : Nat)
  | contentCut (prog cut : Nat)
  | tenantEvicted (station prog : Nat)
  | contentFallback (floor : Nat) (joined : Option Nat)
  | zoneFault (floor : Nat)
  | zoneRestored (floor : Nat)
  | tenantsSuspended (number : Nat)
  | tenantsResumed (number : Nat)
  | announcementEnded (station prog : Nat)
  | announcementCancelled (station prog : Nat)
  | announcementExpired (station prog : Nat)
  deriving DecidableEq, Repr

/-- A report record of a queue: the report and the seconds count at which it was queued (R163). -/
structure ReportRecord where
  time   : Seconds
  report : Report
  deriving DecidableEq, Repr

/-- The orders the coordinator sends to outside equipment (2.5, R111, R128, R143, R146, R150). -/
inductive Order where
  | poll (p : Port)
  | listRequest (p : Port)
  | resetOrder (p : Port)
  | pollCar (car : Nat)
  | recall (car floor : Nat)
  | release (car : Nat)
  | hold (car : Nat)
  | pollNode (floor : Nat)
  | pollSupply (sec : Nat)
  | unlock (door : Nat)
  | lock (door : Nat)
  | play (engine phrase : Nat)
  | stop (engine : Nat)
  | closeSwitch (floor engine : Nat)
  | openSwitch (floor : Nat)
  deriving DecidableEq, Repr

/-! ## Link Unit (Section 10) -/

/-- The reasons of a REFUSED reply, in the order of Figure 10-4. -/
inductive Reason where
  | level | state | unknown | full | overlap | pointsActive | inIncident | isolated | format
  deriving DecidableEq, Repr

/-- The outcome of a request (R158). -/
inductive Verdict where
  | done (clamped notKept : Bool)
  | refused (reason : Reason)
  | invalid
  deriving DecidableEq, Repr

/-- A reply (R159): what Figure 10-4 lays out. -/
structure Reply where
  station : Nat
  level   : Nat
  tag     : Nat
  kind    : Nat
  verdict : Verdict
  waiting : Nat
  body    : List Byte
  deriving DecidableEq, Repr

/-- The state of a link receiver (R156). -/
inductive Receiver where
  | hunting | gathering
  deriving DecidableEq, Repr

/-- One link (R156, R157, R163, R164): its receiver, the bytes of its partial frame after the start byte, the
timer of the silence that discards it, the request in hand and the held frame (each as the request it
spells), its report queue from the oldest, its OVERFLOW flag, and the last reply sent on it. -/
structure LinkLive where
  receiver : Receiver
  gathered : List Byte
  silence  : Option Nat
  inHand   : Option Instr
  held     : Option Instr
  reports  : List ReportRecord
  overflow : Bool
  reply    : Option Reply
  deriving DecidableEq, Repr

/-- The Link Unit. -/
structure LinkUnit where
  host    : LinkLive
  service : LinkLive
  deriving DecidableEq, Repr

/-! ## The whole -/

/-- The state of the coordinator. `clock` counts tenths of a second since cold start; `choices`, `orders` and
`pending` are the model's own (INVENTORY.md, State). -/
structure State where
  clock   : Nat
  choices : Nat
  orders  : List Order
  pending : List Instr
  store   : Store
  desc    : Description
  panel   : PanelUnit
  regime  : RegimeUnit
  evac    : EvacUnit
  stairs  : StairUnit
  lifts   : LiftUnit
  doors   : DoorUnit
  audio   : AudioUnit
  links   : LinkUnit
  deriving DecidableEq, Repr

/-- Nothing the spec describes stops the coordinator: it has no fault, so no one raises one (INVENTORY.md,
Faults). A request that is not accepted is a next state whose reply says REFUSED. -/
inductive Fault where
  deriving DecidableEq, Repr

/-- The refusals of the model. -/
inductive Refusal where
  /-- Raised by exec for a row that has no meaning yet; safe, since nothing follows from a refusal. -/
  | notModelled (mnemonic : String)
  deriving DecidableEq, Repr

/-! ## Defaults and the machine right after reset -/

/-- The defaults of the BUILDING group (R14): nothing present. -/
def BuildingGroup.blank : BuildingGroup :=
  { building := none, floors := .empty, stairs := .empty, banks := .empty, cars := .empty, sections := .empty
    doors := .empty, phrases := .empty, templates := .empty }

/-- The default port record (R12). -/
def PortRec.default : PortRec := { mode := .contact, range := none, debounce := 10, supervision := 5 }

/-- The defaults of the INPUT group (R14). -/
def InputGroup.blank : InputGroup := { ports := .empty }

/-- A zone descriptor nobody has loaded (R35). -/
def Zone.undefined : Zone := { area := none, lock := 3, isolated := false, revision := 0 }

/-- The defaults of the MAP group (R14). -/
def MapGroup.blank : MapGroup := { zones := .empty, ranges := [] }

/-- A contact input at cold start (R18). -/
def Input.fresh : Input := { held := .normal, candidate := none }

/-- A CONTACT port at cold start (R18, R23). -/
def PortLive.contact : PortLive :=
  { state := .supervised, missed := 0, pollTimer := none, answerTimer := none, resync := none, resetTimer := none
    inputs := .empty }

/-- A point state record at cold start (R19). -/
def PointRec.fresh : PointRec := { condition := .normal, short := false, incident := 0, changed := 0 }

/-- A floor record at cold start, of a floor with no default occupancy (R73). -/
def Floor.fresh : Floor :=
  { phase := .normal, core := false, route := .empty, shares := [], occupancy := 0, phaseTime := 0 }

/-- A live stair record at cold start (R94). -/
def StairLive.fresh : StairLive := { load := 0, saturated := false, compromised := false }

/-- A live bank record at cold start (R109). -/
def BankLive.fresh : BankLive := { pBarred := false, qBarred := false, bothReported := false, shaft := false }

/-- A floor entry at cold start (R141). -/
def FloorEntry.fresh : FloorEntry :=
  { content := none, prog := none, connected := false, placement := .normal, fault := false }

/-- A link at cold start (R156, R163). That OVERFLOW starts clear, and that no request is in hand and no frame held, is not in
those rules (DEDUCED, notes/assumptions/49.md). -/
def LinkLive.fresh : LinkLive :=
  { receiver := .hunting, gathered := [], silence := none, inHand := none, held := none, reports := []
    overflow := false, reply := none }

def Store.blank : Store := { building := .blank, input := .blank, map := .blank }

def RegimeUnit.fresh : RegimeUnit :=
  { regime := .normal, drill := false, liftsIncluded := false, relockComplete := false, incidents := []
    nextNumber := 1 }

def AudioUnit.fresh : AudioUnit :=
  { progs := .empty, floors := .empty, tenants := [], drillCopy := false, noticed := [] }

/-- The machine right after reset: a cold start over a store whose three group checks fail, so every group
takes its defaults and is DEFAULTED, and the three SUPERVISION reports of R14 stand first in the host
link's queue. DESIGN CHOICE: the spec does not give what the store holds (notes/assumptions/4.md). -/
def State.reset : State :=
  { clock := 0
    choices := 0
    orders := []
    pending := []
    store := .blank
    desc := { building := .blank, input := .blank, map := .blank, keepBuilding := .defaulted
              keepInput := .defaulted, keepMap := .defaulted, fallback := true }
    panel := { ports := .empty, points := .empty }
    regime := .fresh
    evac := { floors := .empty, queue := [] }
    stairs := { live := .empty, drainTimer := none }
    lifts := { banks := .empty, cars := .empty, pollTimer := 5 }
    doors := { doors := .empty, sections := .empty, nodes := .empty, general := false, relockTimer := none
               pollTimer := 10 }
    audio := .fresh
    links :=
      { host := { LinkLive.fresh with
                  reports := [⟨0, .groupDefaulted .building⟩, ⟨0, .groupDefaulted .input⟩,
                              ⟨0, .groupDefaulted .map⟩] }
        service := .fresh } }

end Sys2Proof.Machine
end

