-- ==== Sys2Proof/Machine/Operands.lean ====
section
/-! DEFINITION. The operands of requests: identifiers as carried turned into the things they name (R2 step 3),
quantities brought into their ranges (R2 step 5), and levels (R158). -/

namespace Sys2Proof.Machine

/-! ## Identifiers -/

/-- A port's number, 1 to 4. -/
def portNumber : Port → Nat
  | .p1 => 1 | .p2 => 2 | .p3 => 3 | .p4 => 4

/-- The port a number names. -/
def portOf (n : Nat) : Option Port :=
  match n with
  | 1 => some .p1 | 2 => some .p2 | 3 => some .p3 | 4 => some .p4
  | _ => none

/-- The ports in order. -/
def allPorts : List Port := [.p1, .p2, .p3, .p4]

/-- A stair's number, 1 to 4 (spec/00 0.5). -/
def stairNumber : Stair → Nat
  | .a => 1 | .b => 2 | .c => 3 | .d => 4

/-- The stair a number names. -/
def stairOf (n : Nat) : Option Stair :=
  match n with
  | 1 => some .a | 2 => some .b | 3 => some .c | 4 => some .d
  | _ => none

/-- The stairs in ascending letter. -/
def allStairs : List Stair := [.a, .b, .c, .d]

/-- A bank's number. -/
def bankNumber : Bank → Nat
  | .one => 1 | .two => 2

/-- The bank a number names. -/
def bankOf (n : Nat) : Option Bank :=
  match n with
  | 1 => some .one | 2 => some .two
  | _ => none

/-- The banks in order. -/
def allBanks : List Bank := [.one, .two]

/-- Door number: four times the floor index plus the stair number less one (R9). -/
def doorNumber (floor : Nat) (s : Stair) : Nat := 4 * floor + (stairNumber s - 1)

/-- The floor of a door number. -/
def doorFloor (door : Nat) : Nat := door / 4

/-- The stair of a door number. -/
def doorStair (door : Nat) : Stair :=
  match door % 4 with
  | 0 => .a | 1 => .b | 2 => .c
  | _ => .d

/-- A template's place in the table of R11. -/
def templateNumber : Template → Nat
  | .alert => 0 | .evacuate => 1 | .defend => 2 | .allclear => 3 | .drillPrefix => 4 | .exitPhrase => 5

/-- A port's place among the ports, 0 to 3. -/
def portIndex (p : Port) : Nat := portNumber p - 1

/-- The key of a point's record: its port above its point, so keys rise in order of port and then point. -/
def pointKey (p : Port) (n : Nat) : Nat := portIndex p * 1024 + n

/-- The port of a point key. -/
def keyPort (k : Nat) : Port :=
  match k / 1024 with
  | 0 => .p1 | 1 => .p2 | 2 => .p3
  | _ => .p4

/-- The point of a point key. -/
def keyPoint (k : Nat) : Nat := k % 1024

/-- A point number a panel may name, 1 to 1023 (R24). -/
def isPoint (n : Nat) : Bool := 1 ≤ n && n ≤ 1023

/-- A contact input, 1 to 32 (R18). -/
def isInput (n : Nat) : Bool := 1 ≤ n && n ≤ 32

/-- A car number, 1 to 8. -/
def isCar (n : Nat) : Bool := 1 ≤ n && n ≤ 8

/-- A section number, 1 to 8 (R9). -/
def isSection (n : Nat) : Bool := 1 ≤ n && n ≤ 8

/-- A zone that has a descriptor, 1 to 127 (R35). -/
def isZone (n : Nat) : Bool := 1 ≤ n && n ≤ 127

/-! ## Quantities -/

/-- A quantity brought into its range (R2 step 5). -/
def clamp (lo hi n : Nat) : Nat := max lo (min hi n)

/-- Whether bringing a quantity into its range moves it. -/
def moved (lo hi n : Nat) : Bool := n < lo || hi < n

/-- A field that may be left out: its default, or the value brought into range (R4). -/
def clampOr (lo hi dflt : Nat) (o : Option Nat) : Nat :=
  match o with
  | none => dflt
  | some n => clamp lo hi n

/-- Whether a field that may be left out is moved. -/
def movedOr (lo hi : Nat) (o : Option Nat) : Bool :=
  match o with
  | none => false
  | some n => moved lo hi n

/-! ## Levels -/

/-- The number of a claimed level. -/
def levelNumber : Level → Nat
  | .one => 1 | .two => 2 | .three => 3

/-- The ceiling of a link (R158): 2 on the host link, 1 on the service link. -/
def ceiling : Link → Nat
  | .host => 2 | .service => 1

/-- The effective level: the numerically larger of the claimed level and the link's ceiling (R158). -/
def effectiveLevel (l : Link) (h : Header) : Nat := max (levelNumber h.claimed) (ceiling l)

end Sys2Proof.Machine
end

