-- ==== Sys2Proof/Machine/Time.lean ====
section
/-! DEFINITION. The seconds count, the comparison of recorded times (R160), the seconds left to one, and timers. -/

namespace Sys2Proof.Machine

/-- The seconds count: whole seconds since cold start, modulo 2^32 (R160). -/
def State.now (s : State) : Seconds := BitVec.ofNat 32 (s.clock / Config.second)

/-- Whether time `t` is later than time `u`: the difference modulo 2^32 lies in 1 to 2^31 - 1, or the two are
2^31 apart and `t` is numerically the greater (R160). -/
def later (t u : Seconds) : Bool :=
  let d := (t - u).toNat
  (0 < d && d < 2 ^ 31) || (d == 2 ^ 31 && u.toNat < t.toNat)

/-- The time `secs` after `t`, modulo 2^32 (R160). -/
def addSeconds (t : Seconds) (secs : Nat) : Seconds := t + BitVec.ofNat 32 secs

/-- The clock value at which a timer started now for `secs` whole seconds is due. -/
def State.dueIn (s : State) (secs : Nat) : Nat := s.clock + secs * Config.second

/-- Seconds remaining from the present seconds count to a recorded time; 0 once the count has reached it (R160). -/
def State.secondsTo (s : State) (t : Seconds) : Nat := if later t s.now then (t - s.now).toNat else 0

/-- Seconds remaining on a timer, to its due clock value, a part of a second counted whole
(DESIGN CHOICE, notes/assumptions/10.md). -/
def State.secondsLeft (s : State) (due : Nat) : Nat := (due - s.clock + 9) / Config.second

end Sys2Proof.Machine
end

