-- ==== Sys2Proof/Machine/Ops.lean ====
section
/-! DEFINITION. The named operations every division uses: queueing reports (R163, R164), sending orders,
acting on one division, the records of the floor, point and port tables, and the reply to a request
(R157, R159). -/

namespace Sys2Proof.Machine

/-! ## Reports -/

/-- The report classes in the order of Figure 10-5 (R163). -/
inductive ReportClass where
  | regime | alarm | phase | stair | car | door | audio | supervision
  deriving DecidableEq, Repr

/-- The class of a report, as the report tables give it. -/
def Report.cls : Report → ReportClass
  | .notActed .. | .isolatedAlarm .. | .unlocated .. | .incidentOpened .. | .incidentExtended ..
  | .incidentNotRecorded .. | .incidentClear .. | .incidentStale .. | .incidentRelatched ..
  | .incidentsMerged .. => .alarm
  | .groupDefaulted .. | .groupNotKept .. | .storeRestored | .storeNotAnswering | .pointFault ..
  | .pointFaultCleared .. | .portUnsupervised .. | .resetAbandoned .. | .portSupervised ..
  | .resyncRepeated .. | .resetDone .. | .resetTimedOut .. => .supervision
  | .regimeChanged .. | .drillStarted .. | .drillEnded .. | .drillEndedIntoLive .. => .regime
  | .floorPromoted .. | .floorCommanded .. | .floorsAlerted .. | .floorsStoodDown .. | .floorNormal ..
  | .floorSentToDefend .. => .phase
  | .stairSaturated .. | .saturationEnded .. | .stairCompromised .. | .stairOutOfUse .. | .stairInUse ..
  | .stairUnavailable .. | .stairAvailable .. | .compromiseCleared .. => .stair
  | .bothBarred .. | .linkLost .. | .linkRestored .. | .positionOutOfRange .. | .carState ..
  | .faultFirefighterCar .. | .keyShutDownCar .. | .runStarted .. | .runEndedAbnormally ..
  | .carParked .. | .carShutDown .. | .parkedCarMoved .. | .runAbandoned .. | .runRedirected ..
  | .shaftFlagSet .. | .shaftFlagCleared .. | .shaftFireFirefighterCar .. | .carsReleased .. => .car
  | .nodeSilent .. | .nodeRestored .. | .lockUnconfirmed .. | .doorRelocked .. | .releaseStarted ..
  | .doorPreempted .. | .doorStuck .. | .lateUnlock .. | .supplyFault .. | .supplyRestored ..
  | .relockHoldStarted .. | .relockDone .. => .door
  | .contentCut .. | .tenantEvicted .. | .contentFallback .. | .zoneFault .. | .zoneRestored ..
  | .tenantsSuspended .. | .tenantsResumed .. | .announcementEnded .. | .announcementCancelled ..
  | .announcementExpired .. => .audio

/-- Whether the service link receives a class: all but AUDIO and SUPERVISION (R163). -/
def ReportClass.toService : ReportClass → Bool
  | .audio | .supervision => false
  | .regime | .alarm | .phase | .stair | .car | .door => true

/-- A report placed at the tail of a queue. A full queue loses its oldest and sets OVERFLOW (R164). -/
def LinkLive.place (q : LinkLive) (r : ReportRecord) : LinkLive :=
  if q.reports.length < Config.reportCapacity then { q with reports := q.reports ++ [r] }
  else { q with reports := q.reports.drop 1 ++ [r], overflow := true }

/-- A report placed in the queues of its class (R163). -/
def LinkUnit.place (u : LinkUnit) (r : ReportRecord) : LinkUnit :=
  { host := u.host.place r
    service := if r.report.cls.toService then u.service.place r else u.service }

/-- Reports placed one after another, all queued at `t`. -/
def LinkUnit.placeAll (t : Seconds) : List Report → LinkUnit → LinkUnit
  | [], u => u
  | r :: rs, u => LinkUnit.placeAll t rs (u.place ⟨t, r⟩)

/-- Reports queued in order with the present seconds count (R163). -/
def State.reportAll (s : State) (rs : List Report) : State :=
  { s with links := LinkUnit.placeAll s.now rs s.links }

/-- One report queued. -/
def State.report (s : State) (r : Report) : State := s.reportAll [r]

/-! ## Orders -/

/-- Orders sent in order to outside equipment. -/
def State.sendAll (s : State) (os : List Order) : State := { s with orders := s.orders ++ os }

/-- One order sent. -/
def State.send (s : State) (o : Order) : State := s.sendAll [o]

/-! ## Acting on one division -/

/-- A division at work: its state, and the reports and orders it has made so far, in order. -/
structure Act (σ : Type) where
  unit    : σ
  reports : List Report
  orders  : List Order

/-- The division's state becomes `u`. -/
def Act.set {σ : Type} (a : Act σ) (u : σ) : Act σ := { a with unit := u }

/-- A report made. -/
def Act.report {σ : Type} (a : Act σ) (r : Report) : Act σ := { a with reports := a.reports ++ [r] }

/-- An order made. -/
def Act.send {σ : Type} (a : Act σ) (o : Order) : Act σ := { a with orders := a.orders ++ [o] }

/-- What a division made goes out: its reports to the queues, its orders to the equipment. -/
def State.emit {σ : Type} (s : State) (a : Act σ) : State := (s.reportAll a.reports).sendAll a.orders

/-- The Stair Load Unit acts; nothing else changes but the queues and the orders. -/
def State.onStairs (s : State) (f : Act StairUnit → Act StairUnit) : State :=
  let a := f ⟨s.stairs, [], []⟩
  ({ s with stairs := a.unit }).emit a

/-- The Lift Recall Unit acts. -/
def State.onLifts (s : State) (f : Act LiftUnit → Act LiftUnit) : State :=
  let a := f ⟨s.lifts, [], []⟩
  ({ s with lifts := a.unit }).emit a

/-- The Door Release Unit acts. -/
def State.onDoors (s : State) (f : Act DoorUnit → Act DoorUnit) : State :=
  let a := f ⟨s.doors, [], []⟩
  ({ s with doors := a.unit }).emit a

/-! ## Records -/

/-- A floor's record (R73). -/
def State.floor (s : State) (f : Nat) : Floor := s.evac.floors.read Floor.fresh f

/-- A floor's record written. -/
def State.setFloor (s : State) (f : Nat) (x : Floor) : State :=
  { s with evac := { s.evac with floors := s.evac.floors.write Floor.fresh f x } }

/-- The evacuation queue written. -/
def State.setQueue (s : State) (q : List QueueEntry) : State := { s with evac := { s.evac with queue := q } }

/-- A port's record in the description (R12). -/
def State.portRec (s : State) (p : Port) : PortRec := s.desc.input.ports.read PortRec.default (portNumber p)

/-- A live port record (R18). -/
def State.port (s : State) (p : Port) : PortLive := s.panel.ports.read PortLive.contact (portNumber p)

/-- A live port record written. -/
def State.setPort (s : State) (p : Port) (x : PortLive) : State :=
  { s with panel := { s.panel with ports := s.panel.ports.write PortLive.contact (portNumber p) x } }

/-- A point's state record (R19). -/
def State.point (s : State) (p : Port) (n : Nat) : PointRec := s.panel.points.read PointRec.fresh (pointKey p n)

/-- A point's state record written. -/
def State.setPoint (s : State) (p : Port) (n : Nat) (x : PointRec) : State :=
  { s with panel := { s.panel with points := s.panel.points.write PointRec.fresh (pointKey p n) x } }

/-- A contact input of a live port. -/
def PortLive.input (x : PortLive) (i : Nat) : Input := x.inputs.read Input.fresh i

/-- A contact input of a live port written. -/
def PortLive.setInput (x : PortLive) (i : Nat) (v : Input) : PortLive :=
  { x with inputs := x.inputs.write Input.fresh i v }

/-- A zone descriptor (R36). -/
def State.zone (s : State) (z : Nat) : Zone := s.desc.map.zones.read Zone.undefined z

/-- A live stair record (R94). -/
def StairUnit.stair (u : StairUnit) (x : Stair) : StairLive := u.live.read StairLive.fresh (stairNumber x)

/-- A live stair record written. -/
def StairUnit.setStair (u : StairUnit) (x : Stair) (v : StairLive) : StairUnit :=
  { u with live := u.live.write StairLive.fresh (stairNumber x) v }

/-- A stair's record in the description, if present (R7). -/
def State.stairRec (s : State) (x : Stair) : Option StairRec := s.desc.building.stairs.get (stairNumber x)

/-- A live bank record (R109). -/
def LiftUnit.bank (u : LiftUnit) (b : Bank) : BankLive := u.banks.read BankLive.fresh (bankNumber b)

/-- A live bank record written. -/
def LiftUnit.setBank (u : LiftUnit) (b : Bank) (v : BankLive) : LiftUnit :=
  { u with banks := u.banks.write BankLive.fresh (bankNumber b) v }

/-- A live car record written. -/
def LiftUnit.setCar (u : LiftUnit) (car : Nat) (v : CarLive) : LiftUnit := { u with cars := u.cars.put car v }

/-- A live door record written. -/
def DoorUnit.setDoor (u : DoorUnit) (door : Nat) (v : DoorLive) : DoorUnit := { u with doors := u.doors.put door v }

/-- A live section record written. -/
def DoorUnit.setSection (u : DoorUnit) (sec : Nat) (v : SectionLive) : DoorUnit :=
  { u with sections := u.sections.put sec v }

/-- A floor's entry in the Announcement Unit (R141). -/
def AudioUnit.floor (u : AudioUnit) (f : Nat) : FloorEntry := u.floors.read FloorEntry.fresh f

/-- A floor's entry in the Announcement Unit written. -/
def AudioUnit.setFloor (u : AudioUnit) (f : Nat) (v : FloorEntry) : AudioUnit :=
  { u with floors := u.floors.write FloorEntry.fresh f v }

/-- A program written. -/
def AudioUnit.setProg (u : AudioUnit) (n : Nat) (v : Prog) : AudioUnit := { u with progs := u.progs.put n v }

/-- A link. -/
def LinkUnit.get (u : LinkUnit) : Link → LinkLive
  | .host => u.host
  | .service => u.service

/-- A link written. -/
def LinkUnit.set (u : LinkUnit) (l : Link) (x : LinkLive) : LinkUnit :=
  match l with
  | .host => { u with host := x }
  | .service => { u with service := x }

/-- A link of the Link Unit. -/
def State.link (s : State) (l : Link) : LinkLive := s.links.get l

/-- A link of the Link Unit written. -/
def State.setLink (s : State) (l : Link) (x : LinkLive) : State := { s with links := s.links.set l x }

/-! ## Lists -/

/-- The numbers from `lo` up to and with `hi`, rising. -/
def span (lo hi : Nat) : List Nat := (List.range (hi + 1 - lo)).map (lo + ·)

/-- A number put into a rising list that has no repeats. -/
def insertNat (n : Nat) : List Nat → List Nat
  | [] => [n]
  | m :: rest => if n < m then n :: m :: rest else if n = m then m :: rest else m :: insertNat n rest

/-- Whether a list names nothing twice. -/
def distinct : List Nat → Bool
  | [] => true
  | n :: rest => !rest.contains n && distinct rest

/-! ## Requests and replies -/

/-- What a division answers to a request: the outcome, and the body as whole items (R158, R161). -/
structure Answer where
  verdict : Verdict
  body    : List (List Byte)

/-- Items that fit in a number of bytes, whole items from the first. -/
def fitItems (room : Nat) : List (List Byte) → List (List Byte)
  | [] => []
  | x :: rest => if x.length ≤ room then x :: fitItems (room - x.length) rest else []

/-- A reply body: the items one after another. Content that would pass 240 bytes is cut at the last whole
item that fits, with the count of items left out at its end (R161). Every field that stands by itself counts as an item, and
the count ahead of a list stays that of the whole list (DESIGN CHOICE, notes/assumptions/10.md). -/
def cutBody (items : List (List Byte)) : List Byte :=
  if items.flatten.length ≤ Config.bodyLimit then items.flatten
  else
    let kept := fitItems (Config.bodyLimit - 1) items
    kept.flatten ++ [BitVec.ofNat 8 (items.length - kept.length)]

/-- The reply to a request is sent on its link: the waiting count is taken after every report the request
queued (R159). -/
def State.reply (s : State) (l : Link) (station level tag kind : Nat) (a : Answer) : State :=
  s.setLink l { s.link l with
    reply := some { station := station, level := level, tag := tag, kind := kind, verdict := a.verdict
                    waiting := (s.link l).reports.length, body := cutBody a.body } }

/-- A request is accepted: DONE with a body. -/
def accept (s : State) (body : List (List Byte)) : State × Answer := (s, ⟨.done false false, body⟩)

/-- A request is refused with nothing changed (R158). -/
def refuse (s : State) (r : Reason) : State × Answer := (s, ⟨.refused r, []⟩)

/-- A good frame that spells command `c` is taken on a link (R157). When a frame is already held it is discarded with no
reply, so none is carried out ahead of the held one. With no request in hand it is carried out (`carried` is the
state after its reply), and with one in hand it becomes the held frame. -/
def takeFrame (l : Link) (c : Instr) (s carried : State) : State :=
  if (s.link l).held.isSome then s
  else if (s.link l).inHand.isNone then carried
  else s.setLink l { s.link l with held := some c }

/-- A request is taken: the owning division carries it out at its effective level (R158), and the reply is
sent on the link that carried it (R159). -/
def takeRequest (l : Link) (h : Header) (kind : Nat) (c : Instr) (s : State)
    (carry : Nat → State × Answer) : State :=
  let level := effectiveLevel l h
  let r := carry level
  takeFrame l c s (r.1.reply l h.station level h.tag kind r.2)

end Sys2Proof.Machine
end

