-- ==== Sys2Proof/Machine/Flags.lean ====
section
/-! DEFINITION. The flags and figures the coordinator works out from its records: each has one home, and what
the spec shows as a second view of it is computed here (notes/assumptions/30.md). -/

namespace Sys2Proof.Machine

/-! ## The building -/

/-- The coordinator holds no building record (R15). -/
def State.unconfigured (s : State) : Bool := s.desc.building.building.isNone

/-- The ready relay is closed while a building record is held (R15, R16). -/
def State.readyRelayClosed (s : State) : Bool := !s.unconfigured

/-- STORE FAULT: set while any group is UNKEPT (R3). -/
def Description.storeFault (d : Description) : Bool :=
  d.keepBuilding == .unkept || d.keepInput == .unkept || d.keepMap == .unkept

/-- FC: the number of floors in use, 0 while UNCONFIGURED (R4, R15). -/
def State.fc (s : State) : Nat :=
  match s.desc.building.building with
  | some b => b.fc
  | none => 0

/-- The number of floors that identifiers of INPUT and MAP loads and the span check of a query are judged
against: FC, or 48 while UNCONFIGURED (R15, R50). -/
def State.loadFloors (s : State) : Nat := if s.unconfigured then Config.floorSlots else s.fc

/-- A figure of the building record, 0 while there is none. -/
def State.figure (s : State) (f : Building → Nat) : Nat :=
  match s.desc.building.building with
  | some b => f b
  | none => 0

/-- The direct-exit test: the street floor, or a floor whose record carries the flag (R5). -/
def State.directExit (s : State) (f : Nat) : Bool :=
  (match s.desc.building.building with | some b => b.street == f | none => false)
    || (match s.desc.building.floors.get f with | some r => r.direct | none => false)

/-- The floors in use, ascending. -/
def State.floors (s : State) : List Nat := List.range s.fc

/-! ## Stairs (R95, R100) -/

/-- The clear time of a load: the drain expiries it needs, rounded up, times the drain interval, at most 65535
(R100). -/
def clearTime (load rate interval : Nat) : Nat :=
  if load = 0 then 0 else min Config.clearTimeLimit ((load + rate - 1) / rate * interval)

/-- The load and clear time of a stair as the unit stands (R100, R108). A stair with no record, which can be reported compromised
(R101, R106), has load 0 and so clear time 0 (DEDUCED, notes/assumptions/51.md). -/
def State.stairFigures (s : State) (u : StairUnit) (x : Stair) : Nat × Nat :=
  let load := (u.stair x).load
  let rate := match s.stairRec x with | some r => r.drain | none => 0
  (load, clearTime load rate (s.figure (·.drainInterval)))

/-- A stair is available when its record is present, it is in use and it is not compromised (R95). -/
def State.available (s : State) (x : Stair) : Bool :=
  match s.stairRec x with
  | some r => r.inUse && !(s.stairs.stair x).compromised
  | none => false

/-- Whether a stair's served range holds a floor. -/
def State.serves (s : State) (x : Stair) (f : Nat) : Bool :=
  match s.stairRec x with
  | some r => r.low ≤ f && f ≤ r.high
  | none => false

/-- The candidate set of a floor, in ascending letter (R95). -/
def State.candidates (s : State) (f : Nat) : List Stair :=
  if f < s.fc then allStairs.filter fun x => s.available x && s.serves x f else []

/-! ## Incidents -/

/-- Whether an incident's floor set holds a floor. -/
def Incident.covers (i : Incident) (f : Nat) : Bool := i.first ≤ f && f < i.first + i.count

/-- Live incidents are those whose drill flag is clear (R54). -/
def RegimeUnit.live (r : RegimeUnit) : List Incident := r.incidents.filter fun i => !i.drill

/-- The incident that has a number. -/
def RegimeUnit.find (r : RegimeUnit) (n : Nat) : Option Incident := r.incidents.find? fun i => i.number == n

/-- Whether an open incident latches a zone (R54). -/
def RegimeUnit.latches (r : RegimeUnit) (z : Nat) : Bool := r.incidents.any fun i => i.zone == z && z != 0

/-- The distinct first floors among the open live incidents (step 7 of R58). -/
def RegimeUnit.firstFloors (r : RegimeUnit) : Nat := (r.live.map (·.first)).eraseDups.length

/-! ## Lifts (R109, R113) -/

/-- A recall floor is barred while an open FLOOR or MANUAL incident has it in its floor set; the drill
incident bars only while the lifts are included (R109). -/
def RegimeUnit.bars (r : RegimeUnit) (f : Nat) : Bool :=
  r.incidents.any fun i =>
    (i.kind == .floor || i.kind == .manual) && i.covers f && (!i.drill || r.liftsIncluded)

/-- A recall regime holds in ALARM and GENERAL, unless a drill without the lifts is running (R113). -/
def RegimeUnit.recalls (r : RegimeUnit) : Bool :=
  (r.regime == .alarm || r.regime == .general) && (!r.drill || r.liftsIncluded)

/-- The recall floor of a bank: P while P is not barred, else Q (R109). -/
def recallFloor (rec : BankRec) (live : BankLive) : Nat := if live.pBarred then rec.q else rec.p

/-! ## Doors -/

/-- The effective capacity of a section: its capacity while its supply is OK, else 0 (R127). -/
def State.effectiveCapacity (s : State) (sec : Nat) (x : SectionLive) : Nat :=
  if x.ok then (s.desc.building.sections.get sec).getD 0 else 0

/-! ## Announcements (R141, R150) -/

/-- The listener floors of a program, ascending (R143). -/
def AudioUnit.listeners (u : AudioUnit) (n : Nat) : List Nat :=
  (u.floors.rows.filter fun r => r.2.prog == some n).map (·.1)

/-- The program an engine carries, with its number. -/
def AudioUnit.engineProg (u : AudioUnit) (e : Nat) : Option (Nat × Prog) :=
  u.progs.rows.find? fun r => r.2.engine == some e

/-- The engine a floor's zone switch is closed to: that of the PLAYING or YIELDING program whose CONNECTED
listener the floor is (R150). -/
def AudioUnit.zoneSwitch (u : AudioUnit) (f : Nat) : Option Nat :=
  let e := u.floor f
  if e.connected then
    match e.prog with
    | some n =>
      match u.progs.get n with
      | some p => if p.state == .playing || p.state == .yielding then p.engine else none
      | none => none
    | none => none
  else none

/-! ## Points -/

/-- The points in ALARM, in order of port and then point. -/
def PanelUnit.alarms (u : PanelUnit) : List (Port × Nat) :=
  (u.points.rows.filter fun r => r.2.condition == .alarm).map fun r => (keyPort r.1, keyPoint r.1)

/-- The points of a port in a condition, in ascending point order. -/
def PanelUnit.portPoints (u : PanelUnit) (p : Port) (c : Condition → Bool) : List Nat :=
  (u.points.rows.filter fun r => c r.2.condition && keyPort r.1 == p).map fun r => keyPoint r.1

end Sys2Proof.Machine
end

