-- ==== Sys2Proof/Machine/Audio.lean ====
section
/-! DEFINITION. The Announcement Unit (Section 9): fire content, program instances, the reassignment of floors,
the engine arbiter, passes and gaps, notices and tenant announcements. The description, the floor records
and the clock are read from the state `s`; the rest is that of the division at work. -/

namespace Sys2Proof.Machine

/-! ## Fire content (R142) -/

/-- A template as loaded. -/
def State.template (s : State) (t : Template) : Option (List (Option Nat)) :=
  s.desc.building.templates.get (templateNumber t)

/-- A template's phrases with the route marker replaced; `none` while the template is not present (R11). -/
def State.phrasesOf (s : State) (t : Template) (marker : List Nat) : Option (List Nat) :=
  (s.template t).map fun l => l.flatMap fun p => match p with | some n => [n] | none => marker

/-- The phrases that stand for a route: the route phrase of each stair in ascending letter, or the exit phrase
(R142). -/
def State.routePhrases (s : State) (r : Route) : List Nat :=
  match r with
  | .empty => []
  | .direct => (s.phrasesOf .exitPhrase []).getD []
  | .stairs l => l.filterMap fun x => (s.stairRec x).map (·.phrase)

/-- The kind and phrase list of a floor's phase and route, before the drill phrase and the cut. -/
def State.phaseList (s : State) (fl : Floor) : Option (ProgKind × List Nat) :=
  match fl.phase with
  | .normal => none
  | .alert => (s.phrasesOf .alert []).map fun l => (.alert, l)
  | .evacuate => (s.phrasesOf .evacuate (s.routePhrases fl.route)).map fun l => (.evacuate, l)
  | .defend => (s.phrasesOf .defend []).map fun l => (.defend, l)
  | .standdown => (s.phrasesOf .allclear []).map fun l => (.allclear, l)

/-- The fire content of a floor, and the number of phrases cut from its list. An empty list is no content
(DESIGN CHOICE, notes/assumptions/16.md). -/
def State.fireContent (s : State) (drill : Bool) (f : Nat) : Option Content × Nat :=
  match s.phaseList (s.floor f) with
  | none => (none, 0)
  | some (kind, l) =>
    let all := (if drill then (s.phrasesOf .drillPrefix []).getD [] else []) ++ l
    if all.isEmpty then (none, 0)
    else (some ⟨kind, all.take Config.phraseLimit⟩, all.length - Config.phraseLimit)

/-- The class of a kind (R142). -/
def ProgKind.cls : ProgKind → Nat
  | .evacuate | .defend => 0
  | .alert => 1
  | .allclear => 2
  | .tenant => 3

/-- The repeat of fire content: continuous, but one pass of an all-clear (R142). -/
def ProgKind.times : ProgKind → Nat
  | .allclear => 1
  | .evacuate | .defend | .alert | .tenant => 0

/-- The gap of fire content, in seconds (R142). -/
def ProgKind.gap : ProgKind → Nat
  | .evacuate | .defend => 10
  | .alert => 30
  | .allclear | .tenant => 0

/-! ## Programs (R143) -/

/-- A new program, WAITING (R143). -/
def newProg (s : State) (kind : ProgKind) (phrases : List Nat) (times gap : Nat) : Prog :=
  { kind := kind, phrases := phrases, times := times, remaining := if times = 0 then none else some times
    index := 0, gap := gap, state := .waiting, engine := none, started := false, expiring := false
    created := s.now, start := none, phraseTimer := none, gapTimer := none }

/-- Whether a program holds a fire content. -/
def Prog.plays (p : Prog) (c : Content) : Bool := p.kind != .tenant && p.kind == c.kind && p.phrases == c.phrases

/-- The lowest program number no program holds (R141). -/
def AudioUnit.freeNumber (u : AudioUnit) : Option Nat := (span 1 Config.progCapacity).find? fun n => !u.progs.has n

/-- The tenant entry of a program. -/
def AudioUnit.entryOf (u : AudioUnit) (n : Nat) : Option TenantEntry := u.tenants.find? fun e => e.prog == n

/-- The order to the zone matrix for a floor whose switch changes as the unit goes from one state to another; none for one
that stays as it was (R150). DEDUCED: a switch that is closed to an engine already is sent no new order for that engine, at
the start of a further pass among others (notes/assumptions/44.md). -/
def switchOrder (old new : AudioUnit) (f : Nat) : List Order :=
  let x := old.zoneSwitch f
  let y := new.zoneSwitch f
  if x == y then []
  else match y with
    | some e => [.closeSwitch f e]
    | none => [.openSwitch f]

/-- The unit changes, and the zone matrix is ordered at once for the floors the change may concern (R150,
notes/assumptions/24.md). -/
def Act.retune (a : Act AudioUnit) (floors : List Nat) (u : AudioUnit) : Act AudioUnit :=
  { a with unit := u, orders := a.orders ++ floors.flatMap (switchOrder a.unit u) }

/-- A program changed, if it is in the table. The switches of its listeners follow. -/
def Act.changeProg (a : Act AudioUnit) (n : Nat) (f : Prog → Prog) : Act AudioUnit :=
  match a.unit.progs.get n with
  | some p => a.retune (a.unit.listeners n) (a.unit.setProg n (f p))
  | none => a

/-- A floor's entry changed. Its switch follows. -/
def Act.changeEntry (a : Act AudioUnit) (f : Nat) (g : FloorEntry → FloorEntry) : Act AudioUnit :=
  a.retune [f] (a.unit.setFloor f (g (a.unit.floor f)))

/-- Every listener of a program holds no program: its switches open. -/
def dropListeners (n : Nat) (a : Act AudioUnit) : Act AudioUnit :=
  (a.unit.listeners n).foldl (fun b f => b.changeEntry f fun e => { e with prog := none, connected := false }) a

/-- The engine a program carries is ordered to stop. -/
def stopEngine (n : Nat) (a : Act AudioUnit) : Act AudioUnit :=
  match a.unit.progs.get n with
  | some p => match p.engine with | some e => a.send (.stop e) | none => a
  | none => a

/-- A program ends: its engine stops, its listeners hold none, and it leaves the table with its tenant entry
(R146). The arbiter and the UNPLACED floors are for the caller. -/
def endProg (n : Nat) (a : Act AudioUnit) : Act AudioUnit :=
  let b := dropListeners n (stopEngine n a)
  b.set { b.unit with progs := b.unit.progs.drop n, tenants := b.unit.tenants.filter fun e => e.prog != n }

/-- A tenant program is suspended with its listener set emptied (step 2 of R151). -/
def suspendProg (n : Nat) (a : Act AudioUnit) : Act AudioUnit :=
  (dropListeners n (stopEngine n a)).changeProg n fun p =>
    { p with state := .suspended, engine := none, index := 0, phraseTimer := none, gapTimer := none }

/-- The engine plays the phrase at an index of a program's list; the phrase's end is due after the length the
directory gives it now (R10, R143). -/
def startPhrase (s : State) (n index : Nat) (a : Act AudioUnit) : Act AudioUnit :=
  match a.unit.progs.get n with
  | none => a
  | some p =>
    match p.engine with
    | none => a
    | some e =>
      let phrase := p.phrases.getD index 0
      let length := (s.desc.building.phrases.get phrase).getD 0
      (a.changeProg n fun p => { p with index := index, phraseTimer := some (s.clock + length) }).send (.play e phrase)

/-- A pass starts: the started flag is set, every listener is CONNECTED, and the first phrase plays (R143). -/
def passStart (s : State) (n : Nat) (a : Act AudioUnit) : Act AudioUnit :=
  let b := a.changeProg n fun p => { p with started := true, state := .playing }
  let c := (b.unit.listeners n).foldl (fun c f => c.changeEntry f fun e => { e with connected := true }) b
  startPhrase s n 0 c

/-! ## The engine arbiter (R147) -/

/-- Whether a waiting program stands ahead of another: class, then creation time, then number. -/
def progAhead (x y : Nat × Prog) : Bool :=
  x.2.kind.cls < y.2.kind.cls
    || (x.2.kind.cls == y.2.kind.cls
      && (later y.2.created x.2.created || (x.2.created == y.2.created && x.1 < y.1)))

/-- A program put in its place among the waiting ones. -/
def insertProg (x : Nat × Prog) : List (Nat × Prog) → List (Nat × Prog)
  | [] => [x]
  | y :: rest => if progAhead x y then x :: y :: rest else y :: insertProg x rest

/-- The waiting programs in order. -/
def AudioUnit.waiting (u : AudioUnit) : List (Nat × Prog) :=
  (u.progs.rows.filter fun r => r.2.state == .waiting).foldl (fun l x => insertProg x l) []

/-- The lowest-numbered free engine. -/
def AudioUnit.freeEngine (u : AudioUnit) : Option Nat :=
  (span 1 Config.engineCount).find? fun e => (u.engineProg e).isNone

/-- The grant step: while an engine is free and a program waits, the first waiting program takes the lowest free
engine and a pass starts. At most four engines can be free. -/
def grantEngines (s : State) : Nat → Act AudioUnit → Act AudioUnit
  | 0, a => a
  | k + 1, a =>
    match a.unit.freeEngine, a.unit.waiting with
    | some e, (n, _) :: _ =>
      let b := a.changeProg n fun p => { p with state := .playing, engine := some e, start := some s.now }
      grantEngines s k (passStart s n b)
    | _, _ => a

/-- Whether a PLAYING program is worse than another: the higher class, then the later start, then the higher
number. -/
def progWorse (x y : Nat × Prog) : Bool :=
  let tx := x.2.start.getD 0
  let ty := y.2.start.getD 0
  y.2.kind.cls < x.2.kind.cls
    || (x.2.kind.cls == y.2.kind.cls && (later tx ty || (tx == ty && y.1 < x.1)))

/-- The worst of the programs that are PLAYING and not YIELDING. -/
def worstPlaying : List (Nat × Prog) → Option (Nat × Prog)
  | [] => none
  | x :: rest =>
    if x.2.state == .playing then
      match worstPlaying rest with
      | none => some x
      | some y => if progWorse x y then some x else some y
    else worstPlaying rest

/-- The pre-emption step over the waiting programs not yet owed an engine: each marks the worst PLAYING program
YIELDING while its own class is strictly less. -/
def markYielding : List (Nat × Prog) → Act AudioUnit → Act AudioUnit
  | [], a => a
  | x :: rest, a =>
    match worstPlaying a.unit.progs.rows with
    | none => a
    | some w =>
      if x.2.kind.cls < w.2.kind.cls then
        markYielding rest (a.changeProg w.1 fun p => { p with state := .yielding })
      else a

/-- A run of the engine arbiter (R147). -/
def engineArbiter (s : State) (a : Act AudioUnit) : Act AudioUnit :=
  let b := grantEngines s Config.engineCount a
  if b.unit.freeEngine.isSome then b
  else
    let owed := (b.unit.progs.rows.filter fun r => r.2.state == .yielding).length
    markYielding (b.unit.waiting.drop owed) b

/-! ## Reassignment of floors (R144, R145) -/

/-- Step 1 of R144: a floor leaves the program it holds. A program left empty ends; a tenant one left empty for
fire content is suspended instead. The second part says whether a program number was freed. -/
def leaveProg (f : Nat) (fire : Bool) (a : Act AudioUnit) : Act AudioUnit × Bool :=
  match (a.unit.floor f).prog with
  | none => (a, false)
  | some n =>
    let b := a.changeEntry f fun e => { e with prog := none, connected := false }
    if (b.unit.listeners n).isEmpty then
      match b.unit.progs.get n with
      | none => (b, false)
      | some p =>
        if p.kind == .tenant && fire then
          (if p.state == .suspended then b else suspendProg n b, false)
        else (endProg n b, true)
    else (b, false)

/-- A floor joins a program as PENDING. -/
def joinProg (f n : Nat) (placement : Placement) (a : Act AudioUnit) : Act AudioUnit :=
  a.changeEntry f fun e => { e with prog := some n, connected := false, placement := placement }

/-- The tenant program with the latest creation time, the later accepted of two made together (R145). -/
def AudioUnit.latestTenant (u : AudioUnit) : Option Nat :=
  (u.tenants.foldl (fun (best : Option (Nat × Seconds)) e =>
    match u.progs.get e.prog with
    | none => best
    | some p =>
      match best with
      | none => some (e.prog, p.created)
      | some b => if later b.2 p.created then best else some (e.prog, p.created)) none).map (·.1)

/-- The continuous program of a kind that has the most listeners, the lowest number among equals (R145). -/
def AudioUnit.fallbackProg (u : AudioUnit) (kind : ProgKind) : Option Nat :=
  (u.progs.rows.foldl (fun (best : Option (Nat × Nat)) r =>
    if r.2.kind == kind && r.2.times == 0 then
      let k := (u.listeners r.1).length
      match best with
      | none => some (r.1, k)
      | some b => if b.2 < k then some (r.1, k) else best
    else best) none).map (·.1)

/-- A new program of a content is made with the floor as its one listener, and a cut is reported (step 5 of
R144). -/
def createFor (s : State) (f n : Nat) (c : Content) (cut : Nat) (a : Act AudioUnit) : Act AudioUnit :=
  let b := a.set (a.unit.setProg n (newProg s c.kind c.phrases c.kind.times c.kind.gap))
  let d := joinProg f n .normal b
  if cut = 0 then d else d.report (.contentCut n cut)

/-- Step 5 of R144 with R145 where the table is full. -/
def makeProg (s : State) (f : Nat) (c : Content) (cut : Nat) (a : Act AudioUnit) : Act AudioUnit :=
  match a.unit.freeNumber with
  | some n => createFor s f n c cut a
  | none =>
    match a.unit.latestTenant with
    | some t =>
      let station := match a.unit.entryOf t with | some e => e.station | none => 0
      createFor s f t c cut ((endProg t a).report (.tenantEvicted station t))
    | none =>
      match a.unit.fallbackProg c.kind with
      | some n => (joinProg f n .fallback a).report (.contentFallback f (some n))
      | none =>
        (a.changeEntry f fun e => { e with prog := none, connected := false, placement := .unplaced }).report
          (.contentFallback f none)

/-- Steps 2 to 5 of R144: a floor that holds no program takes one of its content. -/
def placeFloor (s : State) (f : Nat) (c : Option Content) (cut : Nat) (a : Act AudioUnit) : Act AudioUnit :=
  match c with
  | none => a.changeEntry f fun e => { e with prog := none, connected := false, placement := .normal }
  | some c =>
    match a.unit.progs.rows.find? fun r => r.2.plays c && !r.2.started with
    | some r => joinProg f r.1 .normal a
    | none =>
      match a.unit.progs.rows.find? fun r => r.2.plays c && r.2.times == 0 with
      | some r => joinProg f r.1 .normal a
      | none => makeProg s f c cut a

/-- The floors whose placement is UNPLACED, ascending. -/
def AudioUnit.unplaced (u : AudioUnit) : List Nat :=
  (u.floors.rows.filter fun r => r.2.placement == .unplaced).map (·.1)

/-- One UNPLACED floor reassigned: its content is built from its phase, its route and the drill copy as they stand (R142), and its
program and the number of phrases cut are those of that one content. In a group where the floor's own turn is still to come,
it so takes at once the content it has at its turn (DEDUCED, notes/assumptions/15.md). -/
def placeUnplacedFloor (s : State) (a : Act AudioUnit) (f : Nat) : Act AudioUnit :=
  let new := s.fireContent a.unit.drillCopy f
  placeFloor s f new.1 new.2 (a.changeEntry f fun e => { e with content := new.1 })

/-- Every UNPLACED floor is reassigned, in ascending floor order (R145). -/
def placeUnplaced (s : State) (a : Act AudioUnit) : Act AudioUnit :=
  a.unit.unplaced.foldl (placeUnplacedFloor s) a

/-- Whether the program a floor holds has a content. -/
def AudioUnit.holds (u : AudioUnit) (f : Nat) (c : Option Content) : Bool :=
  match (u.floor f).prog, c with
  | some n, some c => match u.progs.get n with | some p => p.plays c | none => false
  | _, _ => false

/-- One floor reassigned to its present fire content, if it has to be (R144). -/
def reassignFloor (s : State) (a : Act AudioUnit) (f : Nat) : Act AudioUnit :=
  let new := s.fireContent a.unit.drillCopy f
  let e := a.unit.floor f
  if new.1 == e.content && (new.1.isNone || e.prog.isSome) then a
  else
    let b := a.changeEntry f fun e => { e with content := new.1 }
    if b.unit.holds f new.1 then b.changeEntry f fun e => { e with placement := .normal }
    else
      let l := leaveProg f new.1.isSome b
      let c := placeFloor s f new.1 new.2 l.1
      if l.2 then placeUnplaced s c else c

/-- A group of floors reassigned in order, and the engine arbiter once after the last (R144). -/
def reassignGroup (s : State) (fs : List Nat) (a : Act AudioUnit) : Act AudioUnit :=
  engineArbiter s (fs.eraseDups.foldl (reassignFloor s) a)

/-- The end of a program with what follows it: the engine arbiter, and the UNPLACED floors with one more run
(R145, R146). `r` is the report of the ending rule. -/
def finishProg (s : State) (n : Nat) (r : List Report) (a : Act AudioUnit) : Act AudioUnit :=
  let b := endProg n a
  let c := engineArbiter s { b with reports := b.reports ++ r }
  if c.unit.unplaced.isEmpty then c else engineArbiter s (placeUnplaced s c)

/-! ## Phrase ends, passes and gaps (R148, R149, R154) -/

/-- A program gives up its engine: its connected floors' switches open (R148, R149). -/
def freeEngineOf (n : Nat) (state : ProgState) (gapTimer : Option Nat) (a : Act AudioUnit) : Act AudioUnit :=
  a.changeProg n fun p =>
    { p with state := state, engine := none, index := 0, phraseTimer := none, gapTimer := gapTimer }

/-- The end of a pass (R149). The second part lists the floors of an all-clear whose last pass has ended. -/
def passEnd (s : State) (n : Nat) (p : Prog) (a : Act AudioUnit) : Act AudioUnit × List Nat :=
  if p.times = 0 ∨ 1 < p.remaining.getD 0 then
    let b := a.changeProg n fun p =>
      { p with remaining := if p.times = 0 then p.remaining else p.remaining.map (· - 1) }
    if 0 < p.gap then
      (engineArbiter s (freeEngineOf n .gap (some (s.dueIn p.gap)) b), [])
    else if p.state == .playing then (passStart s n b, [])
    else (engineArbiter s (freeEngineOf n .waiting none b), [])
  else
    let floors := if p.kind == .allclear then a.unit.listeners n else []
    let reports := match p.kind, a.unit.entryOf n with
      | .tenant, some e => [Report.announcementEnded e.station n]
      | _, _ => []
    (finishProg s n reports a, floors)

/-- The end of a phrase of the program an engine carries (R148, R154). -/
def phraseEnd (s : State) (e : Nat) (a : Act AudioUnit) : Act AudioUnit × List Nat :=
  match a.unit.engineProg e with
  | none => (a, [])
  | some (n, p) =>
    if p.expiring then
      let reports := match a.unit.entryOf n with
        | some t => [Report.announcementExpired t.station n]
        | none => []
      (finishProg s n reports a, [])
    else if p.phrases.length ≤ p.index + 1 then passEnd s n p a
    else if p.state == .yielding then (engineArbiter s (freeEngineOf n .waiting none a), [])
    else (startPhrase s n (p.index + 1) a, [])

/-- The gap timer of a program in GAP expires (R149). -/
def gapEnd (s : State) (n : Nat) (a : Act AudioUnit) : Act AudioUnit :=
  match a.unit.progs.get n with
  | some p =>
    if p.state == .gap then
      engineArbiter s (a.changeProg n fun p => { p with state := .waiting, index := 0, gapTimer := none })
    else a
  | none => a

/-! ## Regime and drill notices (R151) -/

/-- The drill copy follows the flag a notice carries, and every floor in use whose content changes is reassigned
as one group (step 1 of R151). -/
def followDrill (s : State) (drill : Bool) (a : Act AudioUnit) : Act AudioUnit :=
  if drill == a.unit.drillCopy then a
  else reassignGroup s s.floors (a.set { a.unit with drillCopy := drill })

/-- The tenant programs that are SUSPENDED. -/
def AudioUnit.suspended (u : AudioUnit) : List Nat :=
  (u.progs.rows.filter fun r => r.2.state == .suspended).map (·.1)

/-- Every tenant program suspended as the regime leaves NORMAL (step 2 of R151), in ascending number (DESIGN CHOICE,
notes/assumptions/47.md). -/
def suspendTenants (a : Act AudioUnit) : Act AudioUnit :=
  let ns := (a.unit.progs.rows.filter fun r => r.2.kind == .tenant && r.2.state != .suspended).map (·.1)
  let b := ns.foldl (fun b n => suspendProg n b) a
  if b.unit.suspended.isEmpty then b else b.report (.tenantsSuspended b.unit.suspended.length)

/-- A suspended tenant program takes back its entry's floors and waits (step 3 of R151). -/
def resumeTenant (a : Act AudioUnit) (e : TenantEntry) : Act AudioUnit :=
  match a.unit.progs.get e.prog with
  | some p =>
    if p.state == .suspended then
      let b := a.changeProg e.prog fun p => { p with state := .waiting, index := 0 }
      e.floors.foldl (fun b f => joinProg f e.prog .normal b) b
    else a
  | none => a

/-- The suspended tenant programs resumed in order of acceptance as the regime returns to NORMAL (step 3 of
R151). -/
def resumeTenants (a : Act AudioUnit) : Act AudioUnit :=
  let k := a.unit.suspended.length
  let b := a.unit.tenants.foldl resumeTenant a
  if k = 0 then b else b.report (.tenantsResumed k)

/-- A regime notice taken (R151). -/
def audioRegimeNotice (s : State) (old new : Regime) (drill : Bool) (a : Act AudioUnit) : Act AudioUnit :=
  let b := followDrill s drill a
  let c := if old == .normal && new != .normal then suspendTenants b
    else if old != .normal && new == .normal then resumeTenants b
    else b
  engineArbiter s c

/-- A drill notice taken (R151). -/
def audioDrillNotice (s : State) (drill : Bool) (a : Act AudioUnit) : Act AudioUnit :=
  engineArbiter s (followDrill s drill a)

/-! ## Tenant announcements (R152 to R154) -/

/-- A floor named by a new announcement leaves the program it held, which ends with "announcement ended" if left
empty, and its name leaves that program's entry (R152). So ends one that its expiry has marked already, not as "announcement
expired" (DESIGN CHOICE, notes/assumptions/43.md). -/
def takeFloor (new : Nat) (a : Act AudioUnit) (f : Nat) : Act AudioUnit :=
  match (a.unit.floor f).prog with
  | none => joinProg f new .normal a
  | some m =>
    let station := match a.unit.entryOf m with | some e => e.station | none => 0
    let l := leaveProg f false a
    let b := if l.2 then l.1.report (.announcementEnded station m) else l.1
    let c := b.set { b.unit with tenants := b.unit.tenants.map fun e =>
      if e.prog == m then { e with floors := e.floors.erase f } else e }
    joinProg f new .normal c

/-- An accepted announcement takes effect as program `n` (R152). The named floors leave their programs in the order in which the
request names them, and the engine arbiter runs once, after every one of them has been taken, and not at each program that is
left empty on the way (DESIGN CHOICE, notes/assumptions/43.md). -/
def makeAnnouncement (s : State) (n station gap : Nat) (x : Announcement) (a : Act AudioUnit) : Act AudioUnit :=
  let entry : TenantEntry :=
    { prog := n, station := station, floors := x.floors, phrases := x.phrases, times := x.times, gap := gap
      expiry := if x.expiry = 0 then none else some x.expiry
      timer := if x.expiry = 0 then none else some (s.dueIn x.expiry) }
  let b := a.set { a.unit with
    tenants := a.unit.tenants ++ [entry]
    progs := a.unit.progs.put n (newProg s .tenant x.phrases x.times gap) }
  let c := x.floors.foldl (takeFloor n) b
  engineArbiter s (if c.unit.progs.rows.length < b.unit.progs.rows.length then placeUnplaced s c else c)

/-- A tenant entry's expiry timer expires (R154). -/
def tenantExpiry (s : State) (n : Nat) (a : Act AudioUnit) : Act AudioUnit :=
  match a.unit.entryOf n, a.unit.progs.get n with
  | some e, some p =>
    if e.timer.isNone then a
    else if p.state == .playing || p.state == .yielding then
      let b := a.changeProg n fun p => { p with expiring := true }
      b.set { b.unit with tenants := b.unit.tenants.map fun e => if e.prog == n then { e with timer := none } else e }
    else finishProg s n [.announcementExpired e.station n] a
  | _, _ => a

/-! ## Zone lines (R150) -/

/-- The audio plant reports a zone line fault or restoration; one that leaves the flag as it was is discarded. -/
def zoneLine (f : Nat) (fault : Bool) (a : Act AudioUnit) : Act AudioUnit :=
  if Config.floorSlots ≤ f then a
  else if (a.unit.floor f).fault == fault then a
  else (a.changeEntry f fun e => { e with fault := fault }).report (if fault then .zoneFault f else .zoneRestored f)

/-! ## The division in the machine -/

/-- The Announcement Unit acts; nothing else changes but the queues and the orders. -/
def State.onAudio (s : State) (f : Act AudioUnit → Act AudioUnit) : State :=
  let a := f ⟨s.audio, [], []⟩
  ({ s with audio := a.unit }).emit a

/-- The floor notices given in the event are taken together (R144). -/
def State.takeNotices (s : State) : State :=
  s.onAudio fun a => reassignGroup s s.audio.noticed (a.set { a.unit with noticed := [] })

end Sys2Proof.Machine
end

