-- ==== Sys2Proof/Machine/Doors.lean ====
section
/-! DEFINITION. The Door Release Unit (Section 8): demand, demand classes, the section arbiter, release
verification, supply faults, overrides and relock. The description, the floor records, the compromised
flags and the clock are read from the state `s`; the live records are those of the division at work. -/

namespace Sys2Proof.Machine

/-! ## Records -/

/-- The present doors of a floor, by door number. -/
def State.doorsOfFloor (s : State) (f : Nat) : List Nat :=
  (allStairs.map (doorNumber f)).filter fun n => s.desc.building.doors.has n

/-- The present doors into a stair, by door number. -/
def State.doorsOfStair (s : State) (x : Stair) : List Nat :=
  s.desc.building.doors.keys.filter fun n => doorStair n == x

/-- The section of a door, 0 for a door that is not present. -/
def State.doorSection (s : State) (n : Nat) : Nat :=
  match s.desc.building.doors.get n with
  | some r => r.sec
  | none => 0

/-- When a verify timer started now is due (R129, R134). -/
def State.verifyDue (s : State) : Nat := s.dueIn (s.figure (·.verifyTime))

/-- A live door record as it is when its door becomes present, before LOCK is sent (R126). -/
def DoorLive.fresh : DoorLive :=
  { state := .locked, override := .none, cls := none, demanded := none, granted := none, retryUsed := false
    feedback := .unknown, verify := none }

/-- A live section record as it is when its section becomes present (R127, R128). -/
def State.freshSection (s : State) : SectionLive :=
  { ok := false, answered := false, grants := [], waiting := [], silence := some (s.dueIn 5) }

/-- The state, class and so on of a door changed, if its live record is present. -/
def Act.changeDoor (a : Act DoorUnit) (n : Nat) (f : DoorLive → DoorLive) : Act DoorUnit :=
  match a.unit.doors.get n with
  | some d => a.set (a.unit.setDoor n (f d))
  | none => a

/-- A section's lists and supply changed, if its live record is present. -/
def Act.changeSection (a : Act DoorUnit) (sec : Nat) (f : SectionLive → SectionLive) : Act DoorUnit :=
  match a.unit.sections.get sec with
  | some x => a.set (a.unit.setSection sec (f x))
  | none => a

/-- Whether a door is in RELEASING or RELEASED, and so holds a slot (R126). -/
def DoorState.granted : DoorState → Bool
  | .releasing | .released => true
  | .locked | .waiting | .stuck => false

/-! ## Commands to the strikes -/

/-- LOCK is sent: the verify timer runs for LOCK, in the stead of any the door had running (R129). -/
def sendLock (s : State) (n : Nat) (a : Act DoorUnit) : Act DoorUnit :=
  (a.send (.lock n)).changeDoor n fun d => { d with verify := some (.lock, s.verifyDue) }

/-- UNLOCK is sent: the verify timer runs for RELEASE (R129, R132, R134). -/
def sendUnlock (s : State) (n : Nat) (a : Act DoorUnit) : Act DoorUnit :=
  (a.send (.unlock n)).changeDoor n fun d => { d with verify := some (.release, s.verifyDue) }

/-! ## Demand classes and the waiting list -/

/-- The demand class of a door with an override (R131). -/
def State.doorClass (s : State) (n : Nat) (o : Override) : Nat :=
  let fl := s.floor (doorFloor n)
  if (s.stairs.stair (doorStair n)).compromised || o == .forceReleased then 0
  else if fl.core then 1
  else if fl.phase == .evacuate || fl.phase == .defend then 2
  else if (match s.desc.building.doors.get n with | some r => r.reentry | none => false) then 3
  else 4

/-- Whether door `x` stands ahead of door `y` in a waiting list: by class, then demand time, then door number
(R127). -/
def DoorUnit.ahead (u : DoorUnit) (x y : Nat) : Bool :=
  match u.doors.get x, u.doors.get y with
  | some dx, some dy =>
    let cx := dx.cls.getD 4
    let cy := dy.cls.getD 4
    let tx := dx.demanded.getD 0
    let ty := dy.demanded.getD 0
    cx < cy || (cx == cy && (later ty tx || (tx == ty && x < y)))
  | _, _ => x < y

/-- A door put in its place in a waiting list. -/
def DoorUnit.insertWaiting (u : DoorUnit) (n : Nat) : List Nat → List Nat
  | [] => [n]
  | m :: rest => if u.ahead n m then n :: m :: rest else m :: u.insertWaiting n rest

/-- A door in WAITING takes its place in its section's waiting list, leaving the one it had (R127). -/
def joinWaiting (s : State) (n : Nat) (a : Act DoorUnit) : Act DoorUnit :=
  a.changeSection (s.doorSection n) fun x => { x with waiting := a.unit.insertWaiting n (x.waiting.erase n) }

/-- A door leaves its section's grant set and waiting list. -/
def leaveLists (s : State) (n : Nat) (a : Act DoorUnit) : Act DoorUnit :=
  a.changeSection (s.doorSection n) fun x => { x with grants := x.grants.erase n, waiting := x.waiting.erase n }

/-! ## The section arbiter -/

/-- The first waiting door is granted (R132). -/
def grantDoor (s : State) (sec n : Nat) (a : Act DoorUnit) : Act DoorUnit :=
  let b := a.changeSection sec fun x => { x with grants := x.grants ++ [n], waiting := x.waiting.erase n }
  let c := b.changeDoor n fun d => { d with state := .releasing, granted := some s.now, retryUsed := false }
  sendUnlock s n c

/-- A granted door is pre-empted for the first waiting one (R133). -/
def preemptDoor (s : State) (sec worst first : Nat) (a : Act DoorUnit) : Act DoorUnit :=
  let b := a.changeSection sec fun x => { x with grants := x.grants.erase worst }
  let c := b.changeDoor worst fun d => { d with state := .waiting, granted := none }
  (joinWaiting s worst (sendLock s worst c)).report (.doorPreempted worst first)

/-- Whether granted door `x` is worse than `y`: the higher class, then the later grant, then the higher door
number (R133). -/
def DoorUnit.worse (u : DoorUnit) (x y : Nat) : Bool :=
  match u.doors.get x, u.doors.get y with
  | some dx, some dy =>
    let cx := dx.cls.getD 4
    let cy := dy.cls.getD 4
    let tx := dx.granted.getD 0
    let ty := dy.granted.getD 0
    cy < cx || (cx == cy && (later tx ty || (tx == ty && y < x)))
  | _, _ => y < x

/-- The worst of the granted doors that may be pre-empted: FORCE_RELEASED ones may not (R133). -/
def DoorUnit.worst (u : DoorUnit) : List Nat → Option Nat
  | [] => none
  | n :: rest =>
    let w := u.worst rest
    match u.doors.get n with
    | none => w
    | some d =>
      if d.override == .forceReleased then w
      else
        match w with
        | none => some n
        | some m => if u.worse n m then some n else some m

/-- One turn of the arbiter: the grant step, else the pre-emption step with the grant it makes room for; `none`
when neither applies (R132, R133). -/
def arbiterTurn (s : State) (sec : Nat) (a : Act DoorUnit) : Option (Act DoorUnit) :=
  match a.unit.sections.get sec with
  | none => none
  | some x =>
    match x.waiting with
    | [] => none
    | first :: _ =>
      if x.grants.length < s.effectiveCapacity sec x then some (grantDoor s sec first a)
      else
        match a.unit.worst x.grants with
        | none => none
        | some worst =>
          match a.unit.doors.get first, a.unit.doors.get worst with
          | some df, some dw =>
            if df.cls.getD 4 < dw.cls.getD 4 then
              some (grantDoor s sec first (preemptDoor s sec worst first a))
            else none
          | _, _ => none

/-- Turns of the arbiter until neither step applies. -/
def arbiterTurns (s : State) (sec : Nat) : Nat → Act DoorUnit → Act DoorUnit
  | 0, a => a
  | k + 1, a =>
    match arbiterTurn s sec a with
    | some b => arbiterTurns s sec k b
    | none => a

/-- The turns a run can take: each grant takes a door from the waiting list, and each pre-emption betters a
class, of which there are five. -/
def arbiterFuel (x : SectionLive) : Nat := 4 * x.grants.length + 5 * x.waiting.length + 1

/-- A run of the section arbiter (R132, R133). -/
def arbiter (s : State) (sec : Nat) (a : Act DoorUnit) : Act DoorUnit :=
  match a.unit.sections.get sec with
  | none => a
  | some x => arbiterTurns s sec (arbiterFuel x) a

/-- The arbiter runs for sections in turn. -/
def arbiters (s : State) (secs : List Nat) (a : Act DoorUnit) : Act DoorUnit :=
  secs.foldl (fun b sec => arbiter s sec b) a

/-! ## Re-ranking (R131) -/

/-- The class of one door with demand worked out again. The second part lists the sections in which a class
changed. -/
def rerankDoor (s : State) (acc : Act DoorUnit × List Nat) (n : Nat) : Act DoorUnit × List Nat :=
  match acc.1.unit.doors.get n with
  | none => acc
  | some d =>
    let c := s.doorClass n d.override
    if d.state == .locked || d.cls == some c then acc
    else
      let b := acc.1.changeDoor n fun d => { d with cls := some c }
      (if d.state == .waiting then joinWaiting s n b else b, insertNat (s.doorSection n) acc.2)

/-- The doors concerned re-ranked, and then the arbiter once for each section in which a class changed, in
ascending section number (R131). -/
def rerank (s : State) (ns : List Nat) (a : Act DoorUnit) : Act DoorUnit :=
  let r := ns.foldl (rerankDoor s) (a, [])
  arbiters s r.2 r.1

/-- A floor notice taken (R76, R131). -/
def doorFloorNotice (s : State) (f : Nat) (a : Act DoorUnit) : Act DoorUnit := rerank s (s.doorsOfFloor f) a

/-- A compromise notice taken (R101, R106, R131). -/
def doorCompromiseNotice (s : State) (x : Stair) (a : Act DoorUnit) : Act DoorUnit := rerank s (s.doorsOfStair x) a

/-! ## Demand (R130) -/

/-- A door in LOCKED takes demand and goes to WAITING. -/
def takeDemand (s : State) (n : Nat) (a : Act DoorUnit) : Act DoorUnit :=
  joinWaiting s n (a.changeDoor n fun d =>
    { d with state := .waiting, demanded := some s.now, cls := some (s.doorClass n d.override) })

/-- A door's demand ends (R130): it goes to LOCKED and leaves its list, and a slot it held is freed to the arbiter. DEDUCED: a
door that was LOCKED already is sent no LOCK, under HOLD too (notes/assumptions/28.md). -/
def endDemand (s : State) (n : Nat) (a : Act DoorUnit) : Act DoorUnit :=
  match a.unit.doors.get n with
  | none => a
  | some d =>
    let b := (leaveLists s n a).changeDoor n fun d =>
      { d with state := .locked, cls := none, demanded := none, granted := none, retryUsed := false }
    let c := if d.state == .locked then b else sendLock s n b
    if d.state.granted then arbiter s (s.doorSection n) c else c

/-- The doors that take demand when general demand begins. -/
def DoorUnit.lockedDoors (u : DoorUnit) : List Nat :=
  (u.doors.rows.filter fun r => r.2.state == .locked && r.2.override != .holdLocked).map (·.1)

/-- General demand begins (R130). -/
def beginGeneralDemand (s : State) (a : Act DoorUnit) : Act DoorUnit :=
  let ns := a.unit.lockedDoors
  let b := ns.foldl (fun b n => takeDemand s n b) (a.set { a.unit with general := true })
  arbiters s b.unit.sections.keys (b.report (.releaseStarted ns.length))

/-- A regime notice taken (R130, R139). The relock hold runs in full from the tenth of the notice, so it is due within the second
that its report gives (DESIGN CHOICE, notes/assumptions/1.md). -/
def doorRegimeNotice (s : State) (old new : Regime) (a : Act DoorUnit) : Act DoorUnit :=
  match old, new with
  | .normal, .alarm | .normal, .general => beginGeneralDemand s a
  | .standdown, .alarm | .standdown, .general =>
    if a.unit.relockTimer.isSome then a.set { a.unit with relockTimer := none } else beginGeneralDemand s a
  | .alarm, .standdown | .general, .standdown =>
    let hold := s.figure (·.relockHold)
    (a.set { a.unit with relockTimer := some (s.dueIn hold) }).report (.relockHoldStarted (addSeconds s.now hold))
  | _, _ => a

/-! ## Feedback and verification (R128, R129, R134, R135) -/

/-- A late unlock: UNLOCKED feedback on a STUCK door (R135). -/
def lateUnlock (s : State) (n : Nat) (a : Act DoorUnit) : Act DoorUnit :=
  let sec := s.doorSection n
  match a.unit.sections.get sec with
  | none => a
  | some x =>
    if x.grants.length < s.effectiveCapacity sec x then
      let b := a.changeSection sec fun x => { x with grants := x.grants ++ [n] }
      (b.changeDoor n fun d => { d with state := .released, granted := some s.now }).report (.lateUnlock n .released)
    else
      let b := (sendLock s n a).changeDoor n fun d => { d with state := .waiting }
      (arbiter s sec (joinWaiting s n b)).report (.lateUnlock n .waiting)

/-- A door relocked: a RELEASED door whose feedback becomes LOCKED goes back to RELEASING (R129). -/
def doorRelocked (s : State) (n : Nat) (a : Act DoorUnit) : Act DoorUnit :=
  (sendUnlock s n (a.changeDoor n fun d => { d with state := .releasing, retryUsed := false })).report
    (.doorRelocked n)

/-- Feedback on a door taken by its state (the table of R129). -/
def takeFeedback (s : State) (n : Nat) (unlocked : Bool) (a : Act DoorUnit) : Act DoorUnit :=
  match a.unit.doors.get n with
  | none => a
  | some d =>
    let b := a.changeDoor n fun d => { d with feedback := if unlocked then .unlocked else .locked }
    match d.state, unlocked with
    | .releasing, true => b.changeDoor n fun d => { d with state := .released, verify := none }
    | .stuck, true => lateUnlock s n b
    | .locked, false | .waiting, false => b.changeDoor n fun d => { d with verify := none }
    | .released, false => doorRelocked s n b
    | _, _ => b

/-- The feedback a node's answer gives for the door into a stair. -/
def feedbackAt (x : NodeFeedback) : Stair → Bool
  | .a => x.a
  | .b => x.b
  | .c => x.c
  | .d => x.d

/-- A node's answer taken (R128). The feedback of the doors of one answer is taken in ascending stair letter, so of two STUCK doors
found UNLOCKED the first takes the one free slot (DESIGN CHOICE, notes/assumptions/42.md). -/
def nodeAnswer (s : State) (f : Nat) (x : NodeFeedback) (a : Act DoorUnit) : Act DoorUnit :=
  match a.unit.nodes.get f with
  | none => a
  | some node =>
    let b := a.set { a.unit with nodes := a.unit.nodes.put f { silence := some (s.dueIn 5), silent := false } }
    let c := (s.doorsOfFloor f).foldl (fun c n => takeFeedback s n (feedbackAt x (doorStair n)) c) b
    if node.silent then c.report (.nodeRestored f) else c

/-- A node's silence timer expires (R128). -/
def nodeSilence (s : State) (f : Nat) (a : Act DoorUnit) : Act DoorUnit :=
  match a.unit.nodes.get f with
  | none => a
  | some node =>
    if node.silence.isNone then a
    else
      let b := a.set { a.unit with nodes := a.unit.nodes.put f { silence := none, silent := true } }
      let c := (s.doorsOfFloor f).foldl (fun c n => c.changeDoor n fun d => { d with feedback := .unknown }) b
      c.report (.nodeSilent f)

/-- The verify timer of a RELEASING door expires (R134). -/
def releaseVerify (s : State) (n : Nat) (a : Act DoorUnit) : Act DoorUnit :=
  match a.unit.doors.get n with
  | none => a
  | some d =>
    match d.state, d.verify with
    | .releasing, some (.release, _) =>
      if d.retryUsed then
        let b := (leaveLists s n a).changeDoor n fun d =>
          { d with state := .stuck, granted := none, verify := none }
        arbiter s (s.doorSection n) (b.report (.doorStuck n))
      else sendUnlock s n (a.changeDoor n fun d => { d with retryUsed := true })
    | _, _ => a

/-- The verify timer of a LOCK expires (R129). -/
def lockVerify (n : Nat) (a : Act DoorUnit) : Act DoorUnit :=
  match a.unit.doors.get n with
  | none => a
  | some d =>
    match d.verify with
    | some (.lock, _) => (a.changeDoor n fun d => { d with verify := none }).report (.lockUnconfirmed n d.feedback)
    | _ => a

/-! ## Supplies (R128, R136) -/

/-- A granted door dropped by its supply's fault goes to WAITING and is sent LOCK (R136). -/
def dropDoor (s : State) (a : Act DoorUnit) (n : Nat) : Act DoorUnit :=
  joinWaiting s n (sendLock s n (a.changeDoor n fun d => { d with state := .waiting, granted := none }))

/-- A section's supply goes to FAULT (R136); `silent` says it is by its unit's silence. The dropped doors are taken in the order of
their grants (DESIGN CHOICE, notes/assumptions/47.md). -/
def supplyFails (s : State) (sec : Nat) (silent : Bool) (a : Act DoorUnit) : Act DoorUnit :=
  match a.unit.sections.get sec with
  | none => a
  | some x =>
    let b := a.changeSection sec fun x => { x with ok := false, grants := [] }
    let c := x.grants.foldl (dropDoor s) b
    arbiter s sec (c.report (.supplyFault sec silent x.grants.length))

/-- A section's supply goes to OK (R136). -/
def supplyReturns (s : State) (sec : Nat) (a : Act DoorUnit) : Act DoorUnit :=
  arbiter s sec ((a.changeSection sec fun x => { x with ok := true }).report (.supplyRestored sec))

/-- A supply unit's answer taken (R128, R136). -/
def supplyAnswer (s : State) (sec : Nat) (ok : Bool) (a : Act DoorUnit) : Act DoorUnit :=
  match a.unit.sections.get sec with
  | none => a
  | some x =>
    let b := a.changeSection sec fun x => { x with answered := true, silence := some (s.dueIn 5) }
    if ok && !x.ok then supplyReturns s sec b
    else if !ok && (x.ok || !x.answered) then supplyFails s sec false b
    else b

/-- A supply unit's silence timer expires (R128). -/
def supplySilence (s : State) (sec : Nat) (a : Act DoorUnit) : Act DoorUnit :=
  match a.unit.sections.get sec with
  | none => a
  | some x =>
    if x.silence.isNone then a
    else
      let b := a.changeSection sec fun x => { x with silence := none }
      if x.ok then supplyFails s sec true b else b

/-! ## Overrides (R137, R138) -/

/-- A door goes from STUCK to WAITING with its retry used flag cleared (R137, R138). -/
def unstick (s : State) (n : Nat) (a : Act DoorUnit) : Act DoorUnit :=
  joinWaiting s n (a.changeDoor n fun d => { d with state := .waiting, retryUsed := false })

/-- The class of a door with demand written again, its place in the waiting list with it. -/
def reclass (s : State) (n : Nat) (a : Act DoorUnit) : Act DoorUnit :=
  match a.unit.doors.get n with
  | none => a
  | some d =>
    let b := a.changeDoor n fun d => { d with cls := some (s.doorClass n d.override) }
    if d.state == .waiting then joinWaiting s n b else b

/-- FORCE (R137). -/
def forceDoor (s : State) (n : Nat) (a : Act DoorUnit) : Act DoorUnit :=
  match a.unit.doors.get n with
  | none => a
  | some d =>
    if d.override == .forceReleased then a
    else
      let b := a.changeDoor n fun d => { d with override := .forceReleased }
      let c := match d.state with
        | .locked => takeDemand s n b
        | .stuck => reclass s n (unstick s n b)
        | .waiting | .releasing | .released => reclass s n b
      arbiter s (s.doorSection n) c

/-- HOLD (R137). -/
def holdDoor (s : State) (n : Nat) (a : Act DoorUnit) : Act DoorUnit :=
  match a.unit.doors.get n with
  | none => a
  | some d =>
    if d.override == .holdLocked then a
    else endDemand s n (a.changeDoor n fun d => { d with override := .holdLocked })

/-- NORMAL (R138). -/
def normalDoor (s : State) (n : Nat) (a : Act DoorUnit) : Act DoorUnit :=
  match a.unit.doors.get n with
  | none => a
  | some d =>
    let b := a.changeDoor n fun d => { d with override := .none }
    match d.override with
    | .none => a
    | .forceReleased =>
      if a.unit.general then arbiter s (s.doorSection n) (reclass s n b) else endDemand s n b
    | .holdLocked =>
      if a.unit.general then arbiter s (s.doorSection n) (takeDemand s n b) else b

/-- RETRY on a STUCK door (R138). -/
def retryDoor (s : State) (n : Nat) (a : Act DoorUnit) : Act DoorUnit :=
  arbiter s (s.doorSection n) (unstick s n a)

/-! ## Relock (R139) -/

/-- Every door locked and every list, override, demand and retry cleared; the general demand flag cleared (steps
1 to 3 of R139). The LOCKs go out in ascending door number (DESIGN CHOICE, notes/assumptions/47.md). -/
def relockAll (s : State) (a : Act DoorUnit) : Act DoorUnit :=
  let unlocked := (a.unit.doors.rows.filter fun r => r.2.state != .locked).length
  let u := { a.unit with
    relockTimer := none
    doors := a.unit.doors.map fun _ d =>
      { d with state := .locked, override := .none, cls := none, demanded := none, granted := none
               retryUsed := false }
    sections := a.unit.sections.map fun _ x => { x with grants := [], waiting := [] } }
  let b := u.doors.keys.foldl (fun b n => sendLock s n b) (a.set u)
  (b.set { b.unit with general := false }).report (.relockDone unlocked)

/-- One poll of the door loop (R128): every node and supply unit in use. -/
def doorLoopPoll (s : State) (a : Act DoorUnit) : Act DoorUnit :=
  { a with
    unit := { a.unit with pollTimer := s.dueIn 1 }
    orders := a.orders ++ a.unit.nodes.keys.map .pollNode ++ a.unit.sections.keys.map .pollSupply }

end Sys2Proof.Machine
end

