-- ==== Sys2Proof/Machine/Stairs.lean ====
section
/-! DEFINITION. The Stair Load Unit (Section 6): shares, the fit test, commits and the drain. The description
and the seconds count are read from the state `s`; the live records are those of the division at work. -/

namespace Sys2Proof.Machine

/-- The stairs of a set with the weight of each (R96). -/
def State.weights (s : State) (l : List Stair) : List (Stair × Nat) :=
  l.map fun x => (x, match s.stairRec x with | some r => r.weight | none => 0)

/-- How many stairs of the set take a person of the remainder before `x`: those of greater weight, and those of
equal weight and earlier letter (R96). -/
def aheadInWeight (ws : List (Stair × Nat)) (x : Stair × Nat) : Nat :=
  (ws.filter fun y => x.2 < y.2 || (y.2 == x.2 && stairNumber y.1 < stairNumber x.1)).length

/-- The shares of an occupancy over weighted stairs (R96): the whole part of o × w ÷ W for each, and the
remainder handed out one person to a stair in order of descending weight and ascending letter. -/
def shares (o : Nat) (ws : List (Stair × Nat)) : List (Stair × Nat) :=
  let total := (ws.map (·.2)).sum
  let left := o - (ws.map fun x => o * x.2 / total).sum
  ws.map fun x => (x.1, o * x.2 / total + if aheadInWeight ws x < left then 1 else 0)

/-- The shares of a floor over its present candidate set, from its live occupancy (R96). -/
def State.floorShares (s : State) (f : Nat) : List (Stair × Nat) :=
  shares (s.floor f).occupancy (s.weights (s.candidates f))

/-- The fit test: no share carries its stair past its capacity (R97). A share of 0 adds nothing, so it fits whatever load its
stair carries. -/
def State.fits (s : State) (sh : List (Stair × Nat)) : Bool :=
  sh.all fun x =>
    x.2 == 0 || match s.stairRec x.1 with
    | some r => (s.stairs.stair x.1).load + x.2 ≤ r.capacity
    | none => false

/-- One share committed to its stair: the load is clamped at 4095, and the first clamp since the load was last
0 is reported (R98). -/
def commitShare (s : State) (floor : Nat) (a : Act StairUnit) (x : Stair × Nat) : Act StairUnit :=
  let live := a.unit.stair x.1
  let sum := live.load + x.2
  if Config.loadLimit < sum then
    let u := a.unit.setStair x.1 { live with load := Config.loadLimit, saturated := true }
    if live.saturated then a.set u
    else
      let fig := s.stairFigures u x.1
      (a.set u).report (.stairSaturated x.1 fig.1 fig.2 floor (sum - Config.loadLimit))
  else a.set (a.unit.setStair x.1 { live with load := sum })

/-- A floor's shares committed, stair by stair in ascending letter (R98). -/
def commitShares (s : State) (floor : Nat) (sh : List (Stair × Nat)) (a : Act StairUnit) : Act StairUnit :=
  sh.foldl (commitShare s floor) a

/-- One stair drained (R99): only a present stair drains, in use or not, compromised or not. -/
def drainStair (s : State) (a : Act StairUnit) (x : Stair) : Act StairUnit :=
  match s.stairRec x with
  | none => a
  | some r =>
    let live := a.unit.stair x
    let load := live.load - r.drain
    if live.load ≠ 0 ∧ load = 0 ∧ live.saturated then
      (a.set (a.unit.setStair x { live with load := 0, saturated := false })).report (.saturationEnded x 0 0)
    else a.set (a.unit.setStair x { live with load := load })

/-- Every stair drained, and the drain timer restarted for the interval then in the record (R99). The stairs are taken in ascending
letter (DESIGN CHOICE, notes/assumptions/47.md). -/
def drainAll (s : State) (a : Act StairUnit) : Act StairUnit :=
  let b := allStairs.foldl (drainStair s) a
  b.set { b.unit with drainTimer := some (s.dueIn (s.figure (·.drainInterval))) }

/-- The compromised flag of a stair written. -/
def setCompromised (x : Stair) (v : Bool) (a : Act StairUnit) : Act StairUnit :=
  a.set (a.unit.setStair x { a.unit.stair x with compromised := v })

/-- A stair report with the load and clear time as they stand (R108). -/
def State.stairReport (s : State) (x : Stair) (r : Nat → Nat → Report) : State :=
  let fig := s.stairFigures s.stairs x
  s.report (r fig.1 fig.2)

end Sys2Proof.Machine
end

