-- ==== Sys2Proof/Machine/Evac.lean ====
section
/-! DEFINITION. The Evacuation Controller (Section 5), and the loss and return of stairs that passes through it
(R101 to R106). Each change of a floor gives its notice to the Door Release Unit at once, and to the
Announcement Unit as one of the group of its event (R76, R144). -/

namespace Sys2Proof.Machine

/-! ## Floor notices (R76) -/

/-- The floor notice: doors re-ranked at once, the message changed with the group of the event (R76, R144). -/
def State.notify (s : State) (f : Nat) : State :=
  let t := s.onDoors (doorFloorNotice s f)
  { t with audio := { t.audio with noticed := t.audio.noticed ++ [f] } }

/-- A floor's record changed and its notice given. The phase time is set when the phase changes (R76). -/
def State.changeFloor (s : State) (f : Nat) (g : Floor → Floor) : State :=
  let old := s.floor f
  let new := g old
  (s.setFloor f (if new.phase = old.phase then new else { new with phaseTime := s.now })).notify f

/-! ## The queue (R80) -/

/-- A floor leaves the queue from wherever it stands, its hold timer with it. -/
def State.leaveQueue (s : State) (f : Nat) : State := s.setQueue (s.evac.queue.filter fun e => e.floor != f)

/-- A floor joins the tail of the queue, its hold timer started (R80). The timer runs the hold maximum in full from the tenth at
which the floor joins, so it is due within the second that equals the deadline (DESIGN CHOICE, notes/assumptions/1.md). -/
def State.joinQueue (s : State) (f : Nat) : State :=
  let hold := s.figure (·.holdMax)
  s.setQueue (s.evac.queue ++
    [{ floor := f, entry := s.now, deadline := addSeconds s.now hold, timer := s.dueIn hold }])

/-- The head of the queue (R80). -/
def State.head (s : State) : Option Nat := s.evac.queue.head?.map (·.floor)

/-- Whether a floor is queued. -/
def State.queued (s : State) (f : Nat) : Bool := s.evac.queue.any fun e => e.floor == f

/-! ## Promotion (R84) -/

/-- The PHASE report of a promotion or a command: "floor commanded" with cause COMMAND, else "floor promoted"
(DESIGN CHOICE, notes/assumptions/20.md). -/
def phaseReport (f : Nat) (fl : Floor) (cause : PhaseCause) : Report :=
  if cause = .command then .floorCommanded f fl.phase fl.route cause
  else .floorPromoted f fl.phase fl.route cause

/-- Steps 2 to 4 of R84: the floor's record after its promotion, its shares committed. `core` gives it the core
flag with the same notice (R78). -/
def State.sendFloor (s : State) (f : Nat) (core : Bool) : State :=
  let mark (fl : Floor) : Floor := if core then { fl with core := true } else fl
  if s.directExit f then
    s.changeFloor f fun fl => { mark fl with phase := .evacuate, route := .direct, shares := [] }
  else
    let set := s.candidates f
    if set.isEmpty then s.changeFloor f fun fl => { mark fl with phase := .defend, route := .empty, shares := [] }
    else
      let sh := s.floorShares f
      (s.onStairs (commitShares s f sh)).changeFloor f fun fl =>
        { mark fl with phase := .evacuate, route := .stairs set, shares := sh.filter fun x => x.2 != 0 }

/-- A promotion, normal or forced (R84). -/
def State.promote (s : State) (f : Nat) (core : Bool) (cause : PhaseCause) : State :=
  let t := (s.leaveQueue f).sendFloor f core
  t.report (phaseReport f (t.floor f) cause)

/-! ## The head test (R82, R83) -/

/-- The head test and its chain: each promotion makes the next floor head. The queue's length bounds it. -/
def headTests : Nat → State → State
  | 0, s => s
  | k + 1, s =>
    match s.head with
    | none => s
    | some f =>
      if s.directExit f then headTests k (s.promote f false .direct)
      else if (s.candidates f).isEmpty then headTests k (s.promote f false .noStair)
      else if s.fits (s.floorShares f) then headTests k (s.promote f false .fit)
      else s

/-- The head of the queue is tested (R83). -/
def State.headTest (s : State) : State := headTests s.evac.queue.length s

/-- The head is tested if the queue's head is now a floor that was not head before. -/
def State.headTestIfNew (s : State) (before : Option Nat) : State :=
  if s.head = before then s else s.headTest

/-! ## Core processing (R78, R79) -/

/-- The core floors in the order they are taken: the floor set ascending, the floors above nearest first, the
floors below nearest first (R78). -/
def State.coreFloors (s : State) (first count : Nat) : List Nat :=
  let last := first + count - 1
  let hi := min (last + s.figure (·.coreAbove)) (s.fc - 1)
  let lo := min (first - s.figure (·.coreBelow)) (s.fc - 1)
  (span first last ++ span (last + 1) hi).filter (· < s.fc)
    ++ ((span lo (first - 1)).filter fun f => f < first && f < s.fc).reverse

/-- One core floor taken (R78). -/
def coreFloor (s : State) (f : Nat) : State :=
  let fl := s.floor f
  if fl.phase = .evacuate ∨ fl.phase = .defend then
    if fl.core then s else s.changeFloor f fun fl => { fl with core := true }
  else s.promote f true .core

/-- A floor becomes ALERT and joins the tail of the queue (R79). -/
def alertFloor (s : State) (f : Nat) : State :=
  (s.changeFloor f fun fl => { fl with phase := .alert }).joinQueue f

/-- The floors outside the core that become ALERT: above it ascending, then below it descending (R79). `first` is
the first floor of the floor set, which lies in the core. -/
def State.alertable (s : State) (first : Nat) (core : List Nat) : List Nat :=
  let out := s.floors.filter fun f =>
    !core.contains f && ((s.floor f).phase == .normal || (s.floor f).phase == .standdown)
  (out.filter (first ≤ ·)) ++ (out.filter (· < first)).reverse

/-- The floors that are not in EVACUATE or DEFEND, ascending. -/
def State.unsent (s : State) : List Nat :=
  s.floors.filter fun f => (s.floor f).phase != .evacuate && (s.floor f).phase != .defend

/-- The second half of core processing, by the regime the request carries (R79). -/
def State.alertOthers (s : State) (first : Nat) (core : List Nat) (regime : Regime) : State :=
  match regime with
  | .normal | .standdown =>
    let fs := s.alertable first core
    let t := fs.foldl alertFloor s
    match fs.head?, fs.getLast? with
    | some first, some last => t.report (.floorsAlerted first fs.length last)
    | _, _ => t
  | .alarm => s
  | .general =>
    (s.unsent.filter fun f => !core.contains f).foldl (fun t f => t.promote f false .general) s

/-- Core processing of a floor set (R78, R79), taken whole with its group of notices (R144). -/
def State.coreProcess (s : State) (first count : Nat) (regime : Regime) : State :=
  let core := s.coreFloors first count
  let t := (core.foldl coreFloor s).alertOthers first core regime
  (t.headTestIfNew s.head).takeNotices

/-! ## Regime notices (R77, R89, R90) -/

/-- Entry to GENERAL: every queued floor in queue order, then every other floor not in EVACUATE or DEFEND,
ascending, is promoted forced (R89). -/
def State.enterGeneral (s : State) : State :=
  let t := (s.evac.queue.map (·.floor)).foldl (fun t f => t.promote f false .general) s
  (t.unsent.foldl (fun t f => t.promote f false .general) t).takeNotices

/-- A floor becomes STANDDOWN (R90). -/
def standFloorDown (s : State) (f : Nat) : State :=
  s.changeFloor f fun fl => { fl with phase := .standdown, core := false, route := .empty, shares := [] }

/-- Stand-down: every floor in use that is not NORMAL becomes STANDDOWN, and the queue is emptied (R90). The floors are taken in
ascending order (DESIGN CHOICE, notes/assumptions/47.md). -/
def State.standFloorsDown (s : State) : State :=
  let fs := s.floors.filter fun f => (s.floor f).phase != .normal
  let t := fs.foldl standFloorDown (s.setQueue [])
  (t.report (.floorsStoodDown fs.length)).takeNotices

/-- A regime notice taken (R77). -/
def State.evacRegimeNotice (s : State) (old new : Regime) : State :=
  match old, new with
  | .normal, .general | .alarm, .general | .standdown, .general => s.enterGeneral
  | .alarm, .standdown | .general, .standdown => s.standFloorsDown
  | _, _ => s

/-! ## Stair availability (R101 to R106) -/

/-- A floor's route loses a stair (step 1 of R103). The second part counts routes reduced and floors sent to
DEFEND. -/
def stripFloor (x : Stair) (acc : State × Nat × Nat) (f : Nat) : State × Nat × Nat :=
  let s := acc.1
  match (s.floor f).route with
  | .stairs l =>
    if (s.floor f).phase = .evacuate ∧ l.contains x then
      let left := l.filter fun y => y != x
      if left.isEmpty then
        let t := s.changeFloor f fun fl => { fl with phase := .defend, route := .empty }
        (t.report (.floorSentToDefend f .defend .empty .stair), acc.2.1 + 1, acc.2.2 + 1)
      else (s.changeFloor f fun fl => { fl with route := .stairs left }, acc.2.1 + 1, acc.2.2)
    else acc
  | _ => acc

/-- The availability notice "stair unavailable" (R103). -/
def State.stairUnavailable (s : State) (x : Stair) (cause : StairCause) : State :=
  let r := s.floors.foldl (stripFloor x) (s, 0, 0)
  let t := r.1.stairReport x fun load clear => .stairUnavailable x load clear cause r.2.1 r.2.2
  t.headTest.takeNotices

/-- The availability notice "stair available" (R104). -/
def State.stairAvailable (s : State) (x : Stair) : State :=
  let fs := s.floors.filter fun f => (s.floor f).phase == .defend && s.serves x f
  let t := fs.foldl (fun t f => t.promote f false .stair) s
  (t.stairReport x fun load clear => .stairAvailable x load clear fs.length).headTest.takeNotices

/-- A compromise notice from the Regime Controller (R101). -/
def State.compromise (s : State) (x : Stair) (incident : Nat) : State :=
  if (s.stairs.stair x).compromised then s
  else
    let was := s.available x
    let t := (s.onStairs (setCompromised x true)).stairReport x fun load clear => .stairCompromised x load clear incident
    let u := t.onDoors (doorCompromiseNotice t x)
    if was then u.stairUnavailable x .compromised else u

/-- A compromised flag cleared at stand-down (R106). -/
def clearCompromise (s : State) (x : Stair) : State :=
  if (s.stairs.stair x).compromised then
    let t := (s.onStairs (setCompromised x false)).stairReport x fun load clear => .compromiseCleared x load clear
    let u := t.onDoors (doorCompromiseNotice t x)
    if u.available x then u.stairAvailable x else u
  else s

/-- Every compromised flag cleared (R106). The stairs are taken in ascending letter, each whole, its report and both its notices,
before the flag of the next is cleared (DESIGN CHOICE, notes/assumptions/45.md). -/
def State.clearCompromises (s : State) : State := allStairs.foldl clearCompromise s

/-! ## Hold expiry and occupancy (R81, R92) -/

/-- A queued floor's hold timer expires (R81). -/
def State.holdExpiry (s : State) (f : Nat) : State :=
  if s.queued f then
    let t := s.promote f false .hold
    (if s.head = some f then t.headTest else t).takeNotices
  else s

/-- A floor's live occupancy becomes `n`; a head whose occupancy changed is tested (R92). -/
def State.setOccupancy (s : State) (f n : Nat) : State :=
  let fl := s.floor f
  let t := s.setFloor f { fl with occupancy := n }
  if fl.occupancy ≠ n ∧ s.head = some f then t.headTest.takeNotices else t

/-! ## Floor commands (R86 to R88) -/

/-- FLOOR_COMMAND EVACUATE carried out (R86). -/
def State.commandEvacuate (s : State) (f : Nat) : State :=
  if (s.floor f).phase = .evacuate then s
  else
    let t := s.promote f false .command
    (if s.head = some f then t.headTest else t).takeNotices

/-- FLOOR_COMMAND DEFEND carried out (R87). -/
def State.commandDefend (s : State) (f : Nat) : State :=
  if (s.floor f).phase = .defend then s
  else
    let t := (s.leaveQueue f).changeFloor f fun fl => { fl with phase := .defend, route := .empty }
    let u := t.report (phaseReport f (t.floor f) .command)
    (if s.head = some f then u.headTest else u).takeNotices

/-- FLOOR_COMMAND ALERT carried out (R88). -/
def State.commandAlert (s : State) (f : Nat) : State :=
  if (s.floor f).phase = .alert then s
  else
    let t := (s.changeFloor f fun fl => { fl with phase := .alert, core := false, route := .empty }).joinQueue f
    let u := t.report (phaseReport f (t.floor f) .command)
    (if s.evac.queue.isEmpty then u.headTest else u).takeNotices

/-! ## The return of a floor (R91) -/

/-- An all-clear notice for a floor in STANDDOWN makes it NORMAL (R91). The floor normal notice to the Regime
Controller is for the caller. -/
def State.floorReturns (s : State) (f : Nat) : State :=
  let t := s.changeFloor f fun fl => { fl with phase := .normal }
  (t.report (.floorNormal f)).takeNotices

end Sys2Proof.Machine
end

