-- ==== Sys2Proof/Machine/Lifts.lean ====
section
/-! DEFINITION. The Lift Recall Unit (Section 7): barring, recall runs, status records, faults, the shaft flag
and release. The description, the regime and the clock are read from the state `s`; the live banks and
cars are those of the division at work. -/

namespace Sys2Proof.Machine

/-! ## Records -/

/-- A live car record as it is when its car becomes present (R110). No HOLD is sent to it (DESIGN CHOICE,
notes/assumptions/41.md). -/
def State.freshCar (s : State) : CarLive :=
  { state := .faulted, cause := some .link, awaiting := true, position := none, reported := none, motion := none
    doors := none, mode := none, outOfRange := false, parked := none, run := none, silence := some (s.dueIn 5)
    holdAgain := false }

/-- The bank record of a bank, if present (R8). -/
def State.bankRec (s : State) (b : Bank) : Option BankRec := s.desc.building.banks.get (bankNumber b)

/-- The bank of a present car and its record. -/
def State.carBank (s : State) (n : Nat) : Option (Bank × BankRec) :=
  match s.desc.building.cars.get n with
  | none => none
  | some c => (s.bankRec c.bank).map fun r => (c.bank, r)

/-- The cars of a bank, ascending. -/
def State.bankCars (s : State) (bank : Bank) : List Nat :=
  (s.desc.building.cars.rows.filter fun r => r.2.bank == bank).map (·.1)

/-- A live car record changed, if present. -/
def Act.changeCar (a : Act LiftUnit) (n : Nat) (f : CarLive → CarLive) : Act LiftUnit :=
  match a.unit.cars.get n with
  | some c => a.set (a.unit.setCar n (f c))
  | none => a

/-- The cars present, ascending. -/
def LiftUnit.carNumbers (u : LiftUnit) : List Nat := u.cars.keys

/-- The distance between two floors, in floors. -/
def distance (x y : Nat) : Nat := (x - y) + (y - x)

/-! ## Barring (R109) -/

/-- The barred flags of one present bank worked out afresh. -/
def workOutBank (s : State) (a : Act LiftUnit) (b : Bank) : Act LiftUnit :=
  match s.bankRec b with
  | none => a
  | some r =>
    let p := s.regime.bars r.p
    let q := s.regime.bars r.q
    let live := a.unit.bank b
    let c := a.set (a.unit.setBank b { live with pBarred := p, qBarred := q, bothReported := p && q })
    if p && q && !live.bothReported then c.report (.bothBarred b r.p r.q) else c

/-- The barred flags worked out, at the start of each notice (R109), bank 1 before bank 2 (DESIGN CHOICE,
notes/assumptions/47.md). -/
def workOutBarred (s : State) (a : Act LiftUnit) : Act LiftUnit := allBanks.foldl (workOutBank s) a

/-! ## Runs (R114 to R118) -/

/-- The recall floor in force for a car, if its bank record is present. -/
def State.recallFloorOf (s : State) (u : LiftUnit) (n : Nat) : Option Nat :=
  (s.carBank n).map fun x => recallFloor x.2 (u.bank x.1)

/-- A run's record at its start from a position to a target (R114). -/
def newRun (s : State) (position target : Nat) : Run :=
  let budget := distance position target + s.figure (·.recallMargin)
  { target := target, budget := budget, passes := 0
    travelTimer := some (s.dueIn (budget * s.figure (·.travelTime))), parkTimer := none, redirects := 0
    start := s.now }

/-- A run is started for a car, which must have a position (R114). A car without one is left as it stands
(notes/assumptions/23.md). -/
def startRun (s : State) (n : Nat) (a : Act LiftUnit) : Act LiftUnit :=
  match a.unit.cars.get n, s.recallFloorOf a.unit n with
  | some c, some target =>
    match c.position with
    | none => a
    | some position =>
      let run := newRun s position target
      let b := a.changeCar n fun c =>
        { c with state := .recalling, cause := none, parked := none, run := some run }
      (b.send (.recall n target)).report (.runStarted n target run.budget)
  | _, _ => a

/-- A RECALLING car's run ends abnormally: FAULTED with a cause, HOLD, and the report of R115 (R115, R117,
R118). -/
def endRun (n : Nat) (cause : FaultCause) (a : Act LiftUnit) : Act LiftUnit :=
  match a.unit.cars.get n with
  | none => a
  | some c =>
    let passes := match c.run with | some r => r.passes | none => 0
    let budget := match c.run with | some r => r.budget | none => 0
    let b := a.changeCar n fun c => { c with state := .faulted, cause := some cause, parked := none, run := none }
    (b.send (.hold n)).report (.runEndedAbnormally n cause c.position passes budget)

/-- A run comes to rest at its target with doors open: PARKED, or SHUTDOWN while the bank's shaft flag is set
(R116). -/
def arrive (s : State) (n : Nat) (run : Run) (a : Act LiftUnit) : Act LiftUnit :=
  let shaft := match s.carBank n with | some x => (a.unit.bank x.1).shaft | none => false
  if shaft then
    let b := a.changeCar n fun c => { c with state := .shutdown, parked := some run.target, run := none }
    (b.send (.hold n)).report (.carShutDown n run.target run.passes run.redirects)
  else
    let b := a.changeCar n fun c => { c with state := .parked, parked := some run.target, run := none }
    b.report (.carParked n run.target run.passes run.redirects)

/-- A run changed, if the car has one. -/
def Act.changeRun (a : Act LiftUnit) (n : Nat) (f : Run → Run) : Act LiftUnit :=
  a.changeCar n fun c => { c with run := c.run.map f }

/-- The stop half of a status record in RECALLING (R116). `before` is the car record before the status record,
which holds the floor the previous record showed; `atTarget` whether the record shows the car at its target (notes/assumptions/22.md). -/
def runStop (s : State) (n : Nat) (before : CarLive) (r : CarStatus) (run : Run) (atTarget : Bool)
    (a : Act LiftUnit) : Act LiftUnit :=
  if r.motion == .stopped then
    if atTarget then
      if r.doors == .opened then arrive s n run a
      else a.changeRun n fun x =>
        { x with parkTimer := if x.parkTimer.isSome then x.parkTimer else some (s.dueIn (s.figure (·.parkConfirm))) }
    else
      let b := a.changeRun n fun x => { x with parkTimer := none }
      if before.motion == some .stopped && before.reported == some r.position then b
      else b.send (.recall n run.target)
  else a.changeRun n fun x => { x with parkTimer := none }

/-- Step 3 of R112: a status record acts on the run (R115, R116). -/
def runStep (s : State) (n : Nat) (before : CarLive) (r : CarStatus) (accepted : Bool) (a : Act LiftUnit) :
    Act LiftUnit :=
  match before.run with
  | none => a
  | some run =>
    let passed := match before.position with
      | some old => if accepted then distance old r.position else 0
      | none => 0
    if run.budget < run.passes + passed then endRun n .equipCheck a
    else
      let counted := { run with passes := run.passes + passed }
      runStop s n before r counted (accepted && r.position == run.target) (a.changeRun n fun x =>
        { x with passes := counted.passes })

/-! ## Status records (R112) -/

/-- The car's state changes with a "car state" report (R112, R122). -/
def changeState (n : Nat) (old new : CarState) (cause : Option FaultCause) (a : Act LiftUnit) : Act LiftUnit :=
  (a.changeCar n fun c => { c with state := new, cause := cause, parked := none, run := none }).report
    (.carState n old new cause)

/-- A car held FAULTED by its controller's fault flag: HOLD is sent (R112). -/
def controllerFault (n : Nat) (old : CarState) (a : Act LiftUnit) : Act LiftUnit :=
  (changeState n old .faulted (some .controller) a).send (.hold n)

/-- The state a service mode gives a car by the AUTO row of R112. -/
def modeState : ServiceMode → CarState
  | .normal => .auto
  | .fireKey => .firefighter
  | .independent | .inspection => .exempt

/-- First status and recovery: the record is taken by the AUTO row, from AUTO (R112). A recovered car is sent
RELEASE. The "car state" report names FAULTED, which the live record held, as the old state, and a run that starts here is
first acted on by the next record (DESIGN CHOICES, notes/assumptions/41.md). -/
def takeAsAuto (s : State) (n : Nat) (recovered : Bool) (r : CarStatus) (a : Act LiftUnit) : Act LiftUnit :=
  let b := if recovered then a.send (.release n) else a
  if r.fault then controllerFault n .faulted b
  else
    let new := modeState r.mode
    let c := changeState n .faulted new none b
    if new == .auto && s.regime.recalls then startRun s n c else c

/-- Key off and back to service (R112): a run if a recall regime holds, else AUTO, with RELEASE for a car that
leaves FIREFIGHTER. -/
def backToService (s : State) (n : Nat) (c : CarLive) (a : Act LiftUnit) : Act LiftUnit :=
  if s.regime.recalls && c.position.isSome then startRun s n a
  else
    let b := changeState n c.state .auto none a
    if c.state == .firefighter then b.send (.release n) else b

/-- A run is abandoned for the key or for an exempt mode (R118), with the report of R118 and then that of R112 (DEDUCED,
notes/assumptions/21.md). -/
def abandonRun (n : Nat) (new : CarState) (a : Act LiftUnit) : Act LiftUnit :=
  changeState n .recalling new none (a.report (.runAbandoned n new))

/-- The service mode half of step 2 (the table of R112), and step 3 for a run that goes on. `c` is the car as
step 1 left it, `before` as it was before the record. The record that shows a PARKED car at another floor starts a run (R116) and
does not act on it: step 3 takes that run up at the next record (DESIGN CHOICE, notes/assumptions/41.md). -/
def takeMode (s : State) (n : Nat) (before c : CarLive) (r : CarStatus) (accepted : Bool) (a : Act LiftUnit) :
    Act LiftUnit :=
  match r.mode, c.state with
  | .fireKey, .auto | .fireKey, .parked | .fireKey, .exempt => changeState n c.state .firefighter none a
  | .fireKey, .recalling => abandonRun n .firefighter a
  | .fireKey, .shutdown => a.report (.keyShutDownCar n)
  | .fireKey, .firefighter | .fireKey, .faulted => a
  | .independent, .auto | .independent, .parked | .independent, .firefighter
  | .inspection, .auto | .inspection, .parked | .inspection, .firefighter => changeState n c.state .exempt none a
  | .independent, .recalling | .inspection, .recalling => abandonRun n .exempt a
  | .independent, .exempt | .independent, .faulted | .independent, .shutdown
  | .inspection, .exempt | .inspection, .faulted | .inspection, .shutdown => a
  | .normal, .firefighter | .normal, .exempt => backToService s n c a
  | .normal, .recalling => runStep s n before r accepted a
  | .normal, .parked =>
    match c.parked, s.recallFloorOf a.unit n with
    | some floor, some target =>
      if r.position == floor then a else startRun s n (a.report (.parkedCarMoved n floor target))
    | _, _ => a
  | .normal, .auto | .normal, .faulted | .normal, .shutdown => a

/-- Step 2 of R112 on the fault flag first, then on the service mode where the flag did not decide. DEDUCED: a fault flag
that leaves the state as it is (FIREFIGHTER, FAULTED, SHUTDOWN) decides nothing, so the mode of the same record still
counts (notes/assumptions/18.md). -/
def takeState (s : State) (n : Nat) (before c : CarLive) (r : CarStatus) (accepted : Bool) (a : Act LiftUnit) :
    Act LiftUnit :=
  if r.fault then
    match c.state with
    | .auto | .parked | .exempt => controllerFault n c.state a
    | .recalling => (endRun n .controller a).report (.carState n .recalling .faulted (some .controller))
    | .firefighter => takeMode s n before c r accepted (a.report (.faultFirefighterCar n))
    | .faulted | .shutdown => takeMode s n before c r accepted a
  else takeMode s n before c r accepted a

/-- Whether a FAULTED car recovers by a status record: cause LINK or CONTROLLER, fault flag clear, regime NORMAL
(R112). A car that awaits its first status is FAULTED with cause LINK too, and is taken as that and not as a recovery, so it
is sent no RELEASE (DESIGN CHOICE, notes/assumptions/41.md). -/
def recovers (s : State) (c : CarLive) (r : CarStatus) : Bool :=
  c.state == .faulted && !c.awaiting && (c.cause == some .link || c.cause == some .controller) && !r.fault
    && s.regime.regime == .normal

/-- A status record taken (R111, R112). One with a position outside 0 to 47 is malformed and discarded. "Link restored" gives
the position held before the record (DESIGN CHOICE, notes/assumptions/41.md). -/
def carStatus (s : State) (n : Nat) (r : CarStatus) (a : Act LiftUnit) : Act LiftUnit :=
  match a.unit.cars.get n, s.carBank n with
  | some before, some (_, bank) =>
    if Config.floorSlots ≤ r.position then a
    else
      let restored := if before.silence.isNone then a.report (.linkRestored n before.position) else a
      let accepted := bank.low ≤ r.position && r.position ≤ bank.high
      let c : CarLive :=
        { before with
          silence := some (s.dueIn 5), awaiting := false, holdAgain := false
          position := if accepted then some r.position else before.position
          reported := some r.position
          outOfRange := !accepted
          motion := some r.motion, doors := some r.doors, mode := some r.mode }
      let written := restored.set (restored.unit.setCar n c)
      let noted := if !accepted && !before.outOfRange then written.report (.positionOutOfRange n r.position) else written
      if before.awaiting then takeAsAuto s n false r noted
      else if recovers s before r then takeAsAuto s n true r noted
      else
        let held := if before.holdAgain && before.state == .faulted then noted.send (.hold n) else noted
        takeState s n before c r accepted held
  | _, _ => a

/-! ## Expiries (R111, R117) -/

/-- A car's silence timer expires (R111, R118). -/
def carSilence (n : Nat) (a : Act LiftUnit) : Act LiftUnit :=
  match a.unit.cars.get n with
  | none => a
  | some c =>
    if c.silence.isNone then a
    else
      let b := a.changeCar n fun c => { c with silence := none }
      let d := if c.awaiting then b else match c.state with
        | .recalling => (endRun n .link b).changeCar n fun c => { c with holdAgain := true }
        | .auto | .parked | .firefighter | .exempt =>
          (b.changeCar n fun c =>
            { c with state := .faulted, cause := some .link, parked := none, holdAgain := true }).send (.hold n)
        | .faulted | .shutdown => b
      d.report (.linkLost n c.position)

/-- The travel timer of a run expires (R117). -/
def travelExpiry (n : Nat) (a : Act LiftUnit) : Act LiftUnit :=
  match a.unit.cars.get n with
  | some c =>
    match c.run with
    | some r => if r.travelTimer.isSome then endRun n .equipCheck a else a
    | none => a
  | none => a

/-- The park confirm timer of a run expires (R117). -/
def parkExpiry (n : Nat) (a : Act LiftUnit) : Act LiftUnit :=
  match a.unit.cars.get n with
  | some c =>
    match c.run with
    | some r => if r.parkTimer.isSome then endRun n .doors a else a
    | none => a
  | none => a

/-- One poll of every present car (R111). -/
def carPoll (s : State) (a : Act LiftUnit) : Act LiftUnit :=
  { a with
    unit := { a.unit with pollTimer := s.clock + 5 }
    orders := a.orders ++ a.unit.carNumbers.map .pollCar }

/-! ## Notices (R113, R119, R120, R123) -/

/-- Every car in AUTO starts a run (R113), the cars of both banks in one ascending order of car number (DESIGN CHOICE,
notes/assumptions/47.md). -/
def startAutos (s : State) (a : Act LiftUnit) : Act LiftUnit :=
  a.unit.carNumbers.foldl (fun b n =>
    match b.unit.cars.get n with
    | some c => if c.state == .auto then startRun s n b else b
    | none => b) a

/-- A run or a parked car sent to the bank's new recall floor where its floor is barred (R119). -/
def redirectCar (s : State) (a : Act LiftUnit) (n : Nat) : Act LiftUnit :=
  match a.unit.cars.get n, s.recallFloorOf a.unit n with
  | some c, some floor =>
    match c.state, c.run, c.parked, c.position with
    | .recalling, some run, _, some position =>
      if s.regime.bars run.target && floor != run.target then
        let fresh := newRun s position floor
        let b := a.changeRun n fun x =>
          { fresh with redirects := x.redirects + 1, start := x.start }
        (b.send (.recall n floor)).report (.runRedirected n run.target floor fresh.budget (run.redirects + 1))
      else a
    | .parked, _, some parked, _ =>
      if s.regime.bars parked && floor != parked then
        startRun s n (a.report (.parkedCarMoved n parked floor))
      else a
    | _, _, _, _ => a
  | _, _ => a

/-- Runs and parked cars at barred floors redirected, in ascending car number over both banks together (R119, DESIGN CHOICE,
notes/assumptions/41.md). -/
def redirectCars (s : State) (a : Act LiftUnit) : Act LiftUnit := a.unit.carNumbers.foldl (redirectCar s) a

/-- A recalled car released to ordinary service at stand-down (R123). The second part counts them. -/
def releaseCar (acc : Act LiftUnit × Nat) (n : Nat) : Act LiftUnit × Nat :=
  match acc.1.unit.cars.get n with
  | some c =>
    if c.state == .recalling || c.state == .parked then
      ((acc.1.changeCar n fun c => { c with state := .auto, cause := none, parked := none, run := none }).send
        (.release n), acc.2 + 1)
    else acc
  | none => acc

/-- Stand-down (R123). -/
def releaseCars (a : Act LiftUnit) : Act LiftUnit :=
  let r := a.unit.carNumbers.foldl releaseCar (a, 0)
  r.1.report (.carsReleased r.2)

/-- A regime notice taken (R113). -/
def liftRegimeNotice (s : State) (old new : Regime) (a : Act LiftUnit) : Act LiftUnit :=
  let b := workOutBarred s a
  match old, new with
  | .normal, .alarm | .normal, .general | .standdown, .alarm | .standdown, .general =>
    if s.regime.recalls then startAutos s b else b
  | .alarm, .general => redirectCars s b
  | .alarm, .standdown | .general, .standdown => releaseCars b
  | _, _ => b

/-- The drill notice "drill ended into live" taken (R113). -/
def liftDrillNotice (s : State) (a : Act LiftUnit) : Act LiftUnit := startAutos s (workOutBarred s a)

/-- An incident list notice taken (R113, R119). -/
def liftListNotice (s : State) (a : Act LiftUnit) : Act LiftUnit := redirectCars s (workOutBarred s a)

/-- A car of a bank whose shaft flag has been set (R120). The passes and redirects that a PARKED car's "car shut down"
carries are free values (notes/assumptions/31.md). -/
def shaftCar (s : State) (b : Bank) (a : Act LiftUnit) (n : Nat) : Act LiftUnit :=
  match a.unit.cars.get n, s.desc.building.cars.get n with
  | some c, some r =>
    if r.bank == b then
      match c.state with
      | .parked =>
        ((a.changeCar n fun c => { c with state := .shutdown }).send (.hold n)).report
          (.carShutDown n (c.parked.getD 0) (Config.unstated s.orders.length (2 * n))
            (Config.unstated s.orders.length (2 * n + 1)))
      | .firefighter => a.report (.shaftFireFirefighterCar n)
      | .auto | .recalling | .shutdown | .faulted | .exempt => a
    else a
  | _, _ => a

/-- A shaft notice taken (R120). -/
def shaftNotice (s : State) (b : Bank) (incident : Nat) (a : Act LiftUnit) : Act LiftUnit :=
  let live := a.unit.bank b
  if live.shaft then a
  else
    let c := (a.set (a.unit.setBank b { live with shaft := true })).report (.shaftFlagSet b incident)
    c.unit.carNumbers.foldl (shaftCar s b) c

/-- The shaft flags cleared at stand-down (R70, R123), bank 1 before bank 2 (DESIGN CHOICE, notes/assumptions/47.md). -/
def clearShafts (a : Act LiftUnit) : Act LiftUnit :=
  allBanks.foldl (fun c b =>
    let live := c.unit.bank b
    if live.shaft then (c.set (c.unit.setBank b { live with shaft := false })).report (.shaftFlagCleared b) else c) a

/-! ## Commands (R122) -/

/-- CAR_COMMAND RETURN of a car in FAULTED or SHUTDOWN: a run if a recall regime holds, else AUTO with RELEASE
and a "car state" report (R122). A car that RETURN takes out of FAULTED before its first record after a silence is no longer
sent the second HOLD of R111 (DESIGN CHOICE, notes/assumptions/41.md). -/
def returnCar (s : State) (n : Nat) (c : CarLive) (a : Act LiftUnit) : Act LiftUnit :=
  let b := a.changeCar n fun c => { c with cause := none, parked := none, holdAgain := false }
  if s.regime.recalls && c.position.isSome then startRun s n b
  else (changeState n c.state .auto none b).send (.release n)

end Sys2Proof.Machine
end

