-- ==== Sys2Proof/Machine/Map.lean ====
section
/-! DEFINITION. The Map Unit (Section 3): the range table, and the translation of a point into a zone and a set
of floors. -/

namespace Sys2Proof.Machine

/-- A result passed to the Regime Controller (R43, R44). -/
structure Result where
  zone    : Nat
  kind    : IncidentKind
  first   : Nat
  count   : Nat
  origin  : Port × Nat
  latched : Option Latched
  deriving DecidableEq, Repr

/-- The outcome of a translation (R42 to R44). -/
inductive Translation where
  | isolated (zone : Nat)
  | located (r : Result)
  | unlocated (reason : Unlocated) (r : Result)
  deriving DecidableEq, Repr

/-- Whether a range holds a point of a port. -/
def Range.holds (r : Range) (p : Port) (n : Nat) : Bool := r.port == p && r.first ≤ n && n < r.first + r.count

/-- The range of a port that holds a point (step 1 of R42). -/
def State.rangeOf (s : State) (p : Port) (n : Nat) : Option Range := s.desc.map.ranges.find? fun r => r.holds p n

/-- The port floor range as a first floor and a count: "whole building" is every floor in use, or 48 floors while
UNCONFIGURED (R12, R44, R50). -/
def State.portFloors (s : State) (p : Port) : Nat × Nat :=
  match (s.portRec p).range with
  | some r => (r.1, r.2 + 1 - r.1)
  | none => (0, s.loadFloors)

/-- The unlocated result of a point (R44). -/
def State.unlocatedResult (s : State) (p : Port) (n : Nat) : Result :=
  { zone := 0, kind := .floor, first := (s.portFloors p).1, count := (s.portFloors p).2, origin := (p, n)
    latched := none }

/-- The floors a zone gives an offset: the whole span for ppf 0, else one floor (step 4 of R43). -/
def Area.floors (a : Area) (offset : Nat) : Nat × Nat :=
  if a.ppf = 0 then (a.base, a.span) else (a.base + offset / a.ppf, 1)

/-- Whether a floor set stays within the zone's span and the floors in use (step 4 of R43). -/
def Area.within (a : Area) (fc : Nat) (fs : Nat × Nat) : Bool :=
  fs.1 + fs.2 ≤ a.base + a.span && fs.1 + fs.2 ≤ fc

/-- The descriptor copy of a located result (step 6 of R43). -/
def Zone.copy (z : Zone) (a : Area) : Latched :=
  { kind := a.kind, base := a.base, span := a.span, ppf := a.ppf, revision := z.revision }

/-- The translation of a point against the tables as they stand, in the steps of R42 and R43. -/
def State.translate (s : State) (p : Port) (n : Nat) : Translation :=
  let fail (reason : Unlocated) : Translation := .unlocated reason (s.unlocatedResult p n)
  match s.rangeOf p n with
  | none => fail .noRange
  | some r =>
    if r.zone = 0 then fail .nullZone
    else
      let z := s.zone r.zone
      match z.area with
      | none => fail .undefined
      | some a =>
        let offset := n - r.first
        if a.limit < offset then fail .limit
        else
          let fs := a.floors offset
          if !a.within s.loadFloors fs then fail .span
          else if z.isolated then .isolated r.zone
          else .located { zone := r.zone, kind := a.kind, first := fs.1, count := fs.2, origin := (p, n)
                          latched := some (z.copy a) }

/-- Whether a point's standing is located or unlocated, so that it keeps STAND_DOWN refused (R49, R69). -/
def State.standing (s : State) (p : Port) (n : Nat) : Bool :=
  match s.translate p n with
  | .isolated _ => false
  | .located _ | .unlocated _ _ => true

/-- The points in ALARM that keep STAND_DOWN refused, in order of port and point (R69). -/
def State.activePoints (s : State) : List (Port × Nat) := s.panel.alarms.filter fun x => s.standing x.1 x.2

/-! ## The range table (R39, R40) -/

/-- Whether two ranges share a point. -/
def Range.overlaps (r t : Range) : Bool :=
  r.port == t.port && r.first < t.first + t.count && t.first < r.first + r.count

/-- A range put in its place by port and first point, in the stead of one that has both. -/
def putRange (r : Range) : List Range → List Range
  | [] => [r]
  | t :: rest =>
    if r.port = t.port ∧ r.first = t.first then r :: rest
    else if pointKey r.port r.first < pointKey t.port t.first then r :: t :: rest
    else t :: putRange r rest

/-- Whether a range begins at a port and first point. -/
def Range.beginsAt (r : Range) (p : Port) (n : Nat) : Bool := r.port == p && r.first == n

/-- The points in ALARM of a zone: those in a range naming it, in order of port and point (R48, R50). -/
def State.zoneAlarms (s : State) (z : Nat) : List (Port × Nat) :=
  s.panel.alarms.filter fun x => match s.rangeOf x.1 x.2 with | some r => r.zone == z | none => false

end Sys2Proof.Machine
end

