-- ==== Sys2Proof/Machine/Incidents.lean ====
section
/-! DEFINITION. The Regime Controller (Section 4): regime changes and their notices, incidents, relatching,
drills, stand-down and the return to NORMAL. -/

namespace Sys2Proof.Machine

/-! ## The regime (R53) -/

/-- The Regime Controller's record changed. -/
def State.changeRegime (s : State) (f : RegimeUnit → RegimeUnit) : State := { s with regime := f s.regime }

/-- A regime notice given to the four units in the order R53 names them (notes/assumptions/13.md). -/
def State.regimeNotice (s : State) (old new : Regime) : State :=
  let t := s.evacRegimeNotice old new
  let u := t.onLifts (liftRegimeNotice t old new)
  let v := u.onDoors (doorRegimeNotice u old new)
  v.onAudio (audioRegimeNotice v old new v.regime.drill)

/-- A change of the regime: written, reported, and notified (R53). The relock-complete flag means something only
in STANDDOWN and is cleared with every change (R58, R61, R70, R71). -/
def State.setRegime (s : State) (new : Regime) (cause : RegimeCause) : State :=
  let old := s.regime.regime
  let t := s.changeRegime fun r => { r with regime := new, relockComplete := false }
  (t.report (.regimeChanged old new cause)).regimeNotice old new

/-! ## Incident records (R54, R55) -/

/-- The number after an incident number, 255 being followed by 1 (R55). -/
def numberAfter (n : Nat) : Nat := if 255 ≤ n then 1 else n + 1

/-- The first number from `n` on that no open incident has (R55). At most 16 are open, so 255 tries find one. -/
def RegimeUnit.freeNumber (r : RegimeUnit) : Nat → Nat → Nat
  | 0, n => n
  | k + 1, n => if (r.find n).isSome then r.freeNumber k (numberAfter n) else n

/-- The number a new incident takes (R55). -/
def RegimeUnit.newNumber (r : RegimeUnit) : Nat := r.freeNumber 255 r.nextNumber

/-- The contributing incident of a point written (R56, R58, R59). -/
def State.contribute (s : State) (x : Port × Nat) (incident : Nat) : State :=
  s.setPoint x.1 x.2 { s.point x.1 x.2 with incident := incident }

/-- The incident of a number changed. -/
def RegimeUnit.changeIncident (r : RegimeUnit) (n : Nat) (f : Incident → Incident) : RegimeUnit :=
  { r with incidents := r.incidents.map fun i => if i.number = n then f i else i }

/-- Every point that names an incident number given another (R65, R70). Points keep the canonical form of their
table. -/
def State.renumberPoints (s : State) (which : Nat → Bool) (new : Nat) : State :=
  (s.panel.points.rows.filter fun r => which r.2.incident).foldl (fun t r =>
    t.contribute (keyPort r.1, keyPoint r.1) new) s

/-! ## Opening an incident (R58) -/

/-- Step 1 of R58: the drill ends into live. The REGIME report is queued before the units act on the drill notice
(DESIGN CHOICE, notes/assumptions/24.md). The Lift Recall Unit takes the notice before the Announcement Unit (DEDUCED from the
order in which R53 names the units, notes/assumptions/13.md); the other two have nothing to do at it. -/
def State.drillIntoLive (s : State) : State :=
  let number := match s.regime.incidents.find? (·.drill) with | some i => i.number | none => 0
  let t := s.changeRegime fun r =>
    { r with drill := false, liftsIncluded := false, incidents := r.incidents.filter fun i => !i.drill }
  let u := t.report (.drillEndedIntoLive number)
  let v := u.onLifts (liftDrillNotice u)
  v.onAudio (audioDrillNotice v false)

/-- The threshold test (step 7 of R58). -/
def State.thresholdTest (s : State) : State :=
  if s.regime.regime = .alarm ∧ s.figure (·.threshold) ≤ s.regime.firstFloors ∧ !s.unconfigured then
    s.setRegime .general .threshold
  else s

/-- The kind effects of an incident: a stair compromised, or a shaft flag set (step 5 of R58, step 2 of R64). -/
def State.kindEffects (s : State) (kind : IncidentKind) (number : Nat) : State :=
  match kind with
  | .stair x => s.compromise x number
  | .shaft b => s.onLifts (shaftNotice s b number)
  | .floor | .manual => s

/-- The incident list notice to the Lift Recall Unit (step 6 of R58). -/
def State.listNotice (s : State) : State := s.onLifts (liftListNotice s)

/-- A result opens an incident (R58). -/
def State.openIncident (s : State) (r : Result) : State :=
  let before := s.regime.regime
  let s1 := if s.regime.drill then s.drillIntoLive else s
  let number := s1.regime.newNumber
  let record : Incident :=
    { number := number, zone := r.zone, kind := r.kind, latched := r.latched, first := r.first, count := r.count
      origin := some r.origin, opened := s1.now, points := 1, clear := false, stale := false, drill := false }
  let s2 := s1.changeRegime fun u => { u with incidents := u.incidents ++ [record], nextNumber := numberAfter number }
  let s3 := (s2.contribute r.origin number).report
    (.incidentOpened number r.zone r.kind r.first r.count r.origin)
  let s4 := if before = .normal ∨ before = .standdown then s3.setRegime .alarm .incident else s3
  let s5 := s4.coreProcess r.first r.count before
  ((s5.kindEffects r.kind number).listNotice).thresholdTest

/-- A result that finds the incident list full (R57). -/
def State.notRecorded (s : State) (r : Result) : State :=
  let t := s.report (.incidentNotRecorded r.zone r.first r.count r.origin)
  if s.regime.regime = .alarm then t.setRegime .general .listFull else t

/-- A result extends an incident (R56). -/
def State.extendIncident (s : State) (number : Nat) (r : Result) : State :=
  let t := s.changeRegime fun u => u.changeIncident number fun i => { i with points := i.points + 1, clear := false }
  (t.contribute r.origin number).report (.incidentExtended number r.origin.1 r.origin.2)

/-- A result is taken: it extends the live incident of its identity, or opens one (R56, R57). -/
def State.takeResult (s : State) (r : Result) : State :=
  match s.regime.live.find? fun i => i.zone == r.zone && i.first == r.first with
  | some i => s.extendIncident i.number r
  | none => if Config.incidentCapacity ≤ s.regime.incidents.length then s.notRecorded r else s.openIncident r

/-- An "alarm ended" hand-over taken by the point's contributing incident (R59). -/
def State.alarmEnded (s : State) (p : Port) (n : Nat) : State :=
  let number := (s.point p n).incident
  if number = 0 then s
  else
    match s.regime.find number with
    | none => s.contribute (p, n) 0
    | some i =>
      let points := i.points - 1
      let t := (s.changeRegime fun u =>
        u.changeIncident number fun i => { i with points := points, clear := points == 0 }).contribute (p, n) 0
      if points = 0 then t.report (.incidentClear number) else t

/-- A "zone revised" notice: every open incident that latches the zone is stale (R62). Their reports stand in list order (DESIGN
CHOICE, notes/assumptions/24.md). -/
def State.zoneRevised (s : State) (z : Nat) (revision : BitVec 16) : State :=
  let hit (i : Incident) : Bool := i.zone == z && z != 0
  let t := s.changeRegime fun u =>
    { u with incidents := u.incidents.map fun i => if hit i then { i with stale := true } else i }
  t.reportAll ((s.regime.incidents.filter hit).map fun i =>
    .incidentStale i.number z (match i.latched with | some c => c.revision | none => 0) revision)

/-! ## Relatching (R63 to R65) -/

/-- The effects that follow a relatch or a merge (steps 1 to 4 of R64). -/
def State.relatchEffects (s : State) (number : Nat) (r : Result) : State :=
  let t := s.coreProcess r.first r.count s.regime.regime
  ((t.kindEffects r.kind number).listNotice).thresholdTest

/-- The fields an incident takes from an answer (R64). -/
def Incident.takeAnswer (i : Incident) (r : Result) : Incident :=
  { i with zone := r.zone, kind := r.kind, latched := r.latched, first := r.first, count := r.count, stale := false }

/-- An incident relatched without a merge (R64). -/
def State.relatchIncident (s : State) (i : Incident) (r : Result) : State :=
  let t := s.changeRegime fun u => u.changeIncident i.number fun i => i.takeAnswer r
  (t.report (.incidentRelatched i.number i.zone i.first i.count r.zone r.first r.count)).relatchEffects i.number r

/-- The record that remains of two merged ones (R65): `keep` has the lower number. -/
def mergedRecord (keep gone : Incident) (r : Result) : Incident :=
  let points := keep.points + gone.points
  { keep.takeAnswer r with
    opened := if later keep.opened gone.opened then gone.opened else keep.opened
    points := points, clear := points == 0 }

/-- The merged record put in the place of whichever of the two stands first, and the other taken out
(notes/assumptions/25.md). -/
def mergeInto (new : Incident) (keep gone : Nat) : Bool → List Incident → List Incident
  | _, [] => []
  | placed, i :: rest =>
    if i.number = keep ∨ i.number = gone then
      if placed then mergeInto new keep gone placed rest else new :: mergeInto new keep gone true rest
    else i :: mergeInto new keep gone placed rest

/-- Two incidents of one identity become one, under the lower number (R65). The answer is the remaining number. -/
def State.mergeIncidents (s : State) (i j : Incident) (r : Result) : State × Nat :=
  let keep := if i.number < j.number then i else j
  let gone := if i.number < j.number then j else i
  let t := s.changeRegime fun u =>
    { u with incidents := mergeInto (mergedRecord keep gone r) keep.number gone.number false u.incidents }
  let u := (t.renumberPoints (· == gone.number) keep.number).report (.incidentsMerged keep.number gone.number)
  (u.relatchEffects keep.number r, keep.number)

/-- A relatch by an answer that is not "isolated": merged where its identity belongs to another open incident, else
relatched (R63). The answer is the number of the record that remains. -/
def State.relatchBy (s : State) (i : Incident) (r : Result) : State × Nat :=
  match s.regime.incidents.find? fun j => j.number != i.number && j.zone == r.zone && j.first == r.first with
  | some j => s.mergeIncidents i j r
  | none => (s.relatchIncident i r, i.number)

/-! ## Drills (R66) -/

/-- The drill incident opened on a floor, by the steps of R58 with the differences of R66. The second part is its
number. -/
def State.startDrill (s : State) (floor : Nat) (lifts : Bool) : State × Nat :=
  let before := s.regime.regime
  let number := s.regime.newNumber
  let record : Incident :=
    { number := number, zone := 0, kind := .floor, latched := none, first := floor, count := 1, origin := none
      opened := s.now, points := 0, clear := false, stale := false, drill := true }
  let t := s.changeRegime fun u =>
    { u with drill := true, liftsIncluded := lifts, incidents := u.incidents ++ [record]
             nextNumber := numberAfter number }
  let u := (t.report (.drillStarted number floor lifts)).setRegime .alarm .request
  ((u.coreProcess floor 1 before).listNotice, number)

/-! ## Stand-down and the return to NORMAL (R70, R71) -/

/-- A stand-down carried out (R70). The second part is the number of incidents closed. -/
def State.standDown (s : State) (cause : RegimeCause) : State × Nat :=
  let closed := s.regime.incidents.length
  let t := (s.changeRegime fun u => { u with incidents := [] }).renumberPoints (· != 0) 0
  let number := match s.regime.incidents.find? (·.drill) with | some i => i.number | none => 0
  let u := if s.regime.drill then t.report (.drillEnded number) else t
  let v := (u.changeRegime fun r => { r with drill := false, liftsIncluded := false }).setRegime .standdown cause
  (v.clearCompromises.onLifts clearShafts, closed)

/-- The test for the return to NORMAL: every floor in use NORMAL and relock complete (R71). -/
def State.returnTest (s : State) : State :=
  if s.regime.regime = .standdown ∧ s.regime.relockComplete ∧ s.floors.all fun f => (s.floor f).phase == .normal then
    s.setRegime .normal .ret
  else s

/-- The relock complete notice: kept in STANDDOWN, discarded otherwise (R71). -/
def State.relockCompleted (s : State) : State :=
  if s.regime.regime = .standdown then
    (s.changeRegime fun r => { r with relockComplete := true }).returnTest
  else s

/-- The relock hold timer expires (R139). -/
def State.relockExpiry (s : State) : State :=
  if s.doors.relockTimer.isSome then (s.onDoors (relockAll s)).relockCompleted else s

/-- An all-clear notice for a floor, with the floor normal notice it gives (R71, R91). -/
def State.allClear (s : State) (f : Nat) : State :=
  if (s.floor f).phase = .standdown then (s.floorReturns f).returnTest else s

/-- The end of a phrase on an engine, with the all-clear notices of a last pass (R148, R149). -/
def State.phraseEnds (s : State) (e : Nat) : State :=
  let floors := (phraseEnd s e ⟨s.audio, [], []⟩).2
  floors.foldl State.allClear (s.onAudio fun a => (phraseEnd s e a).1)

end Sys2Proof.Machine
end

