-- ==== Sys2Proof/Machine/Points.lean ====
section
/-! DEFINITION. The Point Input Unit (Section 2): condition changes and their hand-over, contact inputs, the
serial exchange, resynchronisation, panel reset and the change of a port record. -/

namespace Sys2Proof.Machine

/-! ## Condition changes (R20) -/

/-- An "alarm" handed to the Map Unit, and from there to the Regime Controller (R20, R42 to R45). While
UNCONFIGURED it is the "not acted" report (R15). -/
def State.handAlarm (s : State) (p : Port) (n : Nat) : State :=
  if s.unconfigured then s.report (.notActed p n)
  else
    match s.translate p n with
    | .isolated z => s.report (.isolatedAlarm z p n)
    | .located r => s.takeResult r
    | .unlocated reason r => (s.report (.unlocated p n reason)).takeResult r

/-- An "alarm ended" handed on; it is not passed on while UNCONFIGURED (R15, R20). -/
def State.handEnded (s : State) (p : Port) (n : Nat) : State := if s.unconfigured then s else s.alarmEnded p n

/-- A condition change of a point (R20). A condition that stays as it was is no change. -/
def State.changePoint (s : State) (p : Port) (n : Nat) (new : Condition) (short : Bool) : State :=
  let old := s.point p n
  let t := s.setPoint p n { old with condition := new, short := short, changed := s.now }
  match old.condition, new with
  | .normal, .alarm => t.handAlarm p n
  | .fault, .alarm => (t.report (.pointFaultCleared p n)).handAlarm p n
  | .alarm, .normal => t.handEnded p n
  | .alarm, .fault => (t.handEnded p n).report (.pointFault p n)
  | .normal, .fault => t.report (.pointFault p n)
  | .fault, .normal => t.report (.pointFaultCleared p n)
  | .normal, .normal | .alarm, .alarm | .fault, .fault => s

/-- Points brought to NORMAL one after another (R28, R33). -/
def State.clearPoints (s : State) (p : Port) (ns : List Nat) : State :=
  ns.foldl (fun t n => t.changePoint p n .normal false) s

/-! ## Contact mode (R21 to R23) -/

/-- The condition a held class gives (R21). -/
def classCondition : LineClass → Condition
  | .normal => .normal
  | .alarm | .shorted => .alarm
  | .opened => .fault

/-- A point follows the held class of its input: by R20 where the condition differs; where only the short flag
differs it is written with the last change time (R21). -/
def State.followClass (s : State) (p : Port) (n : Nat) (c : LineClass) : State :=
  let old := s.point p n
  let short := c == .shorted
  if old.condition = classCondition c then
    if old.short = short then s else s.setPoint p n { old with short := short, changed := s.now }
  else s.changePoint p n (classCondition c) short

/-- Whether a port is in SERIAL mode (R12). -/
def State.serial (s : State) (p : Port) : Bool := (s.portRec p).mode == .serial

/-- The measured class of a contact input changes (R22). The time it was measured is the present seconds count, though R22 names no
unit (DEDUCED, notes/assumptions/32.md). -/
def State.measure (s : State) (p : Port) (i : Nat) (c : LineClass) : State :=
  if s.serial p || !isInput i then s
  else
    let x := s.port p
    let held := (x.input i).held
    let candidate := if c = held then none
      else some { cls := c, measured := s.now, due := s.clock + (s.portRec p).debounce }
    s.setPort p (x.setInput i { held := held, candidate := candidate })

/-- The debounce timer of a contact input expires (R22). -/
def State.debounced (s : State) (p : Port) (i : Nat) : State :=
  if s.serial p || !isInput i then s
  else
    let x := s.port p
    match (x.input i).candidate with
    | none => s
    | some c => (s.setPort p (x.setInput i { held := c.cls, candidate := none })).followClass p i c.cls

/-! ## Serial mode: polls (R25 to R27) -/

/-- A live port changed. -/
def State.changePort (s : State) (p : Port) (f : PortLive → PortLive) : State := s.setPort p (f (s.port p))

/-- A poll is sent: the poll timer and the answer timer are started (R25). -/
def State.sendPoll (s : State) (p : Port) : State :=
  (s.changePort p fun x =>
    { x with pollTimer := some (s.dueIn (s.portRec p).supervision), answerTimer := some (s.dueIn 1) }).send (.poll p)

/-- The poll timer of a port expires (R25). -/
def State.pollExpiry (s : State) (p : Port) : State :=
  if s.serial p && (s.port p).pollTimer.isSome then s.sendPoll p else s

/-- A resynchronisation is started: a list request, and a fresh resynchronisation record (R27). -/
def State.startResync (s : State) (p : Port) : State :=
  (s.changePort p fun x => { x with resync := some { named := [], timer := s.dueIn 10 } }).send (.listRequest p)

/-- A poll answer that is taken starts a resynchronisation on a port that was STARTING or UNSUPERVISED (R27). -/
def State.firstAnswer (s : State) (p : Port) : State :=
  match (s.port p).state with
  | .starting => (s.changePort p fun x => { x with state := .supervised }).startResync p
  | .unsupervised =>
    ((s.changePort p fun x => { x with state := .supervised }).report (.portSupervised p)).startResync p
  | .supervised | .resetting => s

/-- A poll answer arrives (R25, R27). -/
def State.pollAnswered (s : State) (p : Port) : State :=
  if s.serial p && (s.port p).answerTimer.isSome then
    (s.changePort p fun x => { x with answerTimer := none, missed := 0 }).firstAnswer p
  else s

/-- A port becomes UNSUPERVISED (R26). -/
def State.loseSupervision (s : State) (p : Port) : State :=
  let resetting := (s.port p).state == .resetting
  let t := s.changePort p fun x => { x with state := .unsupervised, resync := none, resetTimer := none }
  t.reportAll (.portUnsupervised p :: if resetting then [.resetAbandoned p] else [])

/-- The answer timer of a poll expires (R25, R26). -/
def State.answerMissed (s : State) (p : Port) : State :=
  if s.serial p && (s.port p).answerTimer.isSome then
    let missed := min 3 ((s.port p).missed + 1)
    let t := s.changePort p fun x => { x with answerTimer := none, missed := missed }
    if missed = 3 ∧ (s.port p).state ≠ .unsupervised then t.loseSupervision p else t
  else s

/-! ## Serial mode: point events and lists (R24, R28, R29) -/

/-- The condition a panel's point event carries; CLEAR is read as NORMAL (R24). -/
def panelCondition : PanelCondition → Condition
  | .alarm => .alarm
  | .fault => .fault
  | .clear => .normal

/-- The condition a list record carries. -/
def listCondition : ListCondition → Condition
  | .alarm => .alarm
  | .fault => .fault

/-- A point is marked as named in a resynchronisation in progress (R28). -/
def State.namePoint (s : State) (p : Port) (n : Nat) : State :=
  s.changePort p fun x => { x with resync := x.resync.map fun r => { r with named := insertNat n r.named } }

/-- A point event record arrives (R23, R24, R28). -/
def State.takePointEvent (s : State) (p : Port) (n : Nat) (c : PanelCondition) : State :=
  if s.serial p && (s.port p).state != .unsupervised && isPoint n then
    (s.namePoint p n).changePoint p n (panelCondition c) false
  else s

/-- A list record arrives (R28). One whose point is outside 1 to 1023 is ignored wholly, the resynchronisation timer left as it
runs (DESIGN CHOICE, notes/assumptions/40.md). -/
def State.takeListRecord (s : State) (p : Port) (n : Nat) (c : ListCondition) : State :=
  if s.serial p && (s.port p).resync.isSome && isPoint n then
    ((s.namePoint p n).changePort p fun x =>
      { x with resync := x.resync.map fun r => { r with timer := s.dueIn 10 } }).changePoint p n (listCondition c) false
  else s

/-- The list end arrives: every point in ALARM or FAULT that was not named becomes NORMAL (R28). -/
def State.takeListEnd (s : State) (p : Port) : State :=
  match (s.port p).resync with
  | none => s
  | some r =>
    if s.serial p then
      let ns := (s.panel.portPoints p fun c => c != .normal).filter fun n => !r.named.contains n
      (s.clearPoints p ns).changePort p fun x => { x with resync := none }
    else s

/-- The resynchronisation timer expires before the list end (R29). -/
def State.resyncExpiry (s : State) (p : Port) : State :=
  if s.serial p && (s.port p).resync.isSome then (s.startResync p).report (.resyncRepeated p) else s

/-! ## Panel reset (R30 to R32) -/

/-- A panel reset is made (R30). -/
def State.resetPanel (s : State) (p : Port) : State :=
  (s.changePort p fun x =>
    { x with state := .resetting, resync := none, resetTimer := some (s.dueIn 30) }).send (.resetOrder p)

/-- RESETTING ends with a resynchronisation (R31, R32). -/
def State.leaveResetting (s : State) (p : Port) (r : Report) : State :=
  if s.serial p && (s.port p).state == .resetting then
    ((s.changePort p fun x => { x with state := .supervised, resetTimer := none }).report r).startResync p
  else s

/-! ## Changing a port record (R18, R33) -/

/-- A port that becomes SERIAL, at cold start or by SET_PORT: STARTING, its first poll sent (R18, R25). -/
def State.startSerial (s : State) (p : Port) : State :=
  (s.setPort p { PortLive.contact with state := .starting }).sendPoll p

/-- A port takes the mode of its record afresh (R18, R33). -/
def State.startPort (s : State) (p : Port) : State :=
  if s.serial p then s.startSerial p else s.setPort p PortLive.contact

/-- The mode of a port has changed in its record (R33). -/
def State.changeMode (s : State) (p : Port) : State :=
  (s.clearPoints p (s.panel.portPoints p fun c => c != .normal)).startPort p

end Sys2Proof.Machine
end

