-- ==== Sys2Proof/Machine/Reports.lean ====
section
/-! DEFINITION. The bytes of report records (Figures 10-5 and 10-6, R166), and the encodings of fields they share
with reply bodies. -/

namespace Sys2Proof.Machine

/-! ## Fields (R166) -/

/-- A field of one byte. -/
def b1 (n : Nat) : List Byte := [BitVec.ofNat 8 n]

/-- A field of two bytes, high byte first. -/
def b2 (n : Nat) : List Byte := [BitVec.ofNat 8 (n / 256), BitVec.ofNat 8 n]

/-- A field of four bytes, high byte first: a seconds count. -/
def b4 (t : Seconds) : List Byte := b2 (t.toNat / 65536) ++ b2 (t.toNat % 65536)

/-- A flag, in a byte of its own (DESIGN CHOICE, notes/assumptions/10.md). -/
def bflag (b : Bool) : List Byte := b1 (if b then 1 else 0)

/-- An optional field of one byte: all ones when absent (Figure 10-6). -/
def opt1 (o : Option Nat) : List Byte := b1 (o.getD 255)

/-- An optional field of two bytes. -/
def opt2 (o : Option Nat) : List Byte := b2 (o.getD 65535)

/-- An optional seconds count. -/
def optTime (o : Option Seconds) : List Byte := b4 (o.getD (BitVec.allOnes 32))

/-- A port and point as the subject of a report (the end of Figure 10-5): the port less one in the upper two bits of the
sixteen, the point in the lower ten. -/
def portPoint (p : Port) (n : Nat) : Nat := portIndex p * 2 ^ 14 + n

/-- A port and a point in a body: the port as 1 to 4 in one byte, the point in two (R166). -/
def pointField (x : Port × Nat) : List Byte := b1 (portNumber x.1) ++ b2 x.2

/-- An optional port and point in a body, all ones when absent (Figure 10-6). -/
def optPoint (o : Option (Port × Nat)) : List Byte :=
  match o with
  | some x => pointField x
  | none => b1 255 ++ b2 65535

/-- A stair in a set, one bit per member: stair A in the least significant bit. -/
def stairBit (s : Stair) : Nat := 2 ^ (stairNumber s - 1)

/-- A route as a set of stairs, with the direct exit as a fifth member (DESIGN CHOICE,
notes/assumptions/10.md). -/
def routeField : Route → List Byte
  | .empty => b1 0
  | .stairs l => b1 (l.map stairBit).sum
  | .direct => b1 16

/-- A store group's number (Figure 10-5). -/
def groupNumber : StoreGroup → Nat
  | .building => 1 | .input => 2 | .map => 3

/-- The kind of an incident, by its position in R54. -/
def IncidentKind.code : IncidentKind → Nat
  | .floor => 0 | .manual => 1 | .stair _ => 2 | .shaft _ => 3

/-! ## Report codes (R166) -/

/-- The report code of a report: its position among the reports of its class, in the order of the report tables. -/
def Report.code : Report → Nat
  | .groupDefaulted .. | .notActed .. | .regimeChanged .. | .floorPromoted .. | .stairSaturated ..
  | .bothBarred .. | .nodeSilent .. | .contentCut .. => 1
  | .groupNotKept .. | .isolatedAlarm .. | .drillStarted .. | .floorCommanded .. | .saturationEnded ..
  | .linkLost .. | .nodeRestored .. | .tenantEvicted .. => 2
  | .storeRestored | .unlocated .. | .drillEnded .. | .floorsAlerted .. | .stairCompromised ..
  | .linkRestored .. | .lockUnconfirmed .. | .contentFallback .. => 3
  | .storeNotAnswering | .incidentOpened .. | .drillEndedIntoLive .. | .floorsStoodDown .. | .stairOutOfUse ..
  | .positionOutOfRange .. | .doorRelocked .. | .zoneFault .. => 4
  | .pointFault .. | .incidentExtended .. | .floorNormal .. | .stairInUse .. | .carState ..
  | .releaseStarted .. | .zoneRestored .. => 5
  | .pointFaultCleared .. | .incidentNotRecorded .. | .floorSentToDefend .. | .stairUnavailable ..
  | .faultFirefighterCar .. | .doorPreempted .. | .tenantsSuspended .. => 6
  | .portUnsupervised .. | .incidentClear .. | .stairAvailable .. | .keyShutDownCar .. | .doorStuck ..
  | .tenantsResumed .. => 7
  | .resetAbandoned .. | .incidentStale .. | .compromiseCleared .. | .runStarted .. | .lateUnlock ..
  | .announcementEnded .. => 8
  | .portSupervised .. | .incidentRelatched .. | .runEndedAbnormally .. | .supplyFault ..
  | .announcementCancelled .. => 9
  | .resyncRepeated .. | .incidentsMerged .. | .carParked .. | .supplyRestored .. | .announcementExpired .. => 10
  | .resetDone .. | .carShutDown .. | .relockHoldStarted .. => 11
  | .resetTimedOut .. | .parkedCarMoved .. | .relockDone .. => 12
  | .runAbandoned .. => 13
  | .runRedirected .. => 14
  | .shaftFlagSet .. => 15
  | .shaftFlagCleared .. => 16
  | .shaftFireFirefighterCar .. => 17
  | .carsReleased .. => 18

/-- The code of a report class (Figure 10-5). -/
def ReportClass.code : ReportClass → Nat
  | .regime => 1 | .alarm => 2 | .phase => 3 | .stair => 4 | .car => 5 | .door => 6 | .audio => 7
  | .supervision => 8

/-! ## Subjects and bodies -/

/-- The subject identifier of a report (Figure 10-5), 0 where its table gives none. The subject of "regime
changed" is the new regime (DESIGN CHOICE, notes/assumptions/10.md). -/
def Report.subject : Report → Nat
  | .notActed p n | .pointFault p n | .pointFaultCleared p n => portPoint p n
  | .groupDefaulted g | .groupNotKept g => groupNumber g
  | .storeRestored | .storeNotAnswering | .floorsStoodDown _ | .carsReleased _ | .releaseStarted _
  | .relockHoldStarted _ | .relockDone _ | .tenantsSuspended _ | .tenantsResumed _ => 0
  | .portUnsupervised p | .resetAbandoned p | .portSupervised p | .resyncRepeated p | .resetDone p
  | .resetTimedOut p | .unlocated p _ _ => portNumber p
  | .isolatedAlarm z _ _ | .incidentNotRecorded z _ _ _ => z
  | .incidentOpened n _ _ _ _ _ | .incidentExtended n _ _ | .incidentClear n | .incidentStale n _ _ _
  | .incidentRelatched n _ _ _ _ _ _ | .incidentsMerged n _ | .drillStarted n _ _ | .drillEnded n
  | .drillEndedIntoLive n => n
  | .regimeChanged _ new _ => new.ctorIdx
  | .floorPromoted f _ _ _ | .floorCommanded f _ _ _ | .floorsAlerted f _ _ | .floorNormal f
  | .floorSentToDefend f _ _ _ | .nodeSilent f | .nodeRestored f | .contentFallback f _ | .zoneFault f
  | .zoneRestored f => f
  | .stairSaturated x _ _ _ _ | .saturationEnded x _ _ | .stairCompromised x _ _ _ | .stairOutOfUse x _ _
  | .stairInUse x _ _ | .stairUnavailable x _ _ _ _ _ | .stairAvailable x _ _ _ | .compromiseCleared x _ _ =>
    stairNumber x
  | .bothBarred b _ _ | .shaftFlagSet b _ | .shaftFlagCleared b => bankNumber b
  | .linkLost c _ | .linkRestored c _ | .positionOutOfRange c _ | .carState c _ _ _ | .faultFirefighterCar c
  | .keyShutDownCar c | .runStarted c _ _ | .runEndedAbnormally c _ _ _ _ | .carParked c _ _ _
  | .carShutDown c _ _ _ | .parkedCarMoved c _ _ | .runAbandoned c _ | .runRedirected c _ _ _ _
  | .shaftFireFirefighterCar c => c
  | .lockUnconfirmed d _ | .doorRelocked d | .doorPreempted d _ | .doorStuck d | .lateUnlock d _ => d
  | .supplyFault n _ _ | .supplyRestored n => n
  | .contentCut n _ => n
  | .tenantEvicted st _ | .announcementEnded st _ | .announcementCancelled st _ | .announcementExpired st _ => st

/-- The load and clear time every stair report carries (R108). -/
def figures (load clear : Nat) : List Byte := b2 load ++ b2 clear

/-- The further body of a report, in the order its table names the fields. Counts of a floor set take two bytes;
the other counts of floors take one; the load and clear time of a STAIR report stand first; LIST_FULL, the one reason of
"incident not recorded", is 0; a redirect count takes one byte (DESIGN CHOICE, notes/assumptions/10.md). "Supply restored"
carries no cause (DEDUCED, notes/assumptions/35.md). -/
def Report.body : Report → List Byte
  | .notActed _ _ | .groupDefaulted _ | .groupNotKept _ | .storeRestored | .storeNotAnswering | .pointFault _ _
  | .pointFaultCleared _ _ | .portUnsupervised _ | .resetAbandoned _ | .portSupervised _ | .resyncRepeated _
  | .resetDone _ | .resetTimedOut _ | .incidentClear _ | .drillEnded _ | .drillEndedIntoLive _ | .floorNormal _
  | .faultFirefighterCar _ | .keyShutDownCar _ | .shaftFlagCleared _ | .shaftFireFirefighterCar _
  | .nodeSilent _ | .nodeRestored _ | .doorRelocked _ | .doorStuck _ | .supplyRestored _ | .zoneFault _
  | .zoneRestored _ => []
  | .isolatedAlarm _ p n => pointField (p, n)
  | .unlocated _ n reason => b2 n ++ b1 reason.ctorIdx
  | .incidentOpened _ zone kind first count origin =>
    b1 zone ++ b1 kind.code ++ b1 first ++ b2 count ++ pointField origin
  | .incidentExtended _ p n => pointField (p, n)
  | .incidentNotRecorded _ first count origin => b1 first ++ b2 count ++ pointField origin ++ b1 0
  | .incidentStale _ zone latched revised => b1 zone ++ b2 latched.toNat ++ b2 revised.toNat
  | .incidentRelatched _ oz of oc nz nf nc => b1 oz ++ b1 of ++ b2 oc ++ b1 nz ++ b1 nf ++ b2 nc
  | .incidentsMerged _ removed => b1 removed
  | .regimeChanged old new cause => b1 old.ctorIdx ++ b1 new.ctorIdx ++ b1 cause.ctorIdx
  | .drillStarted _ floor lifts => b1 floor ++ bflag lifts
  | .floorPromoted _ phase route cause | .floorCommanded _ phase route cause
  | .floorSentToDefend _ phase route cause => b1 phase.ctorIdx ++ routeField route ++ b1 cause.ctorIdx
  | .floorsAlerted _ number last => b1 number ++ b1 last
  | .floorsStoodDown number => b1 number
  | .stairSaturated _ load clear floor lost => figures load clear ++ b1 floor ++ b2 lost
  | .saturationEnded _ load clear | .stairOutOfUse _ load clear | .stairInUse _ load clear
  | .compromiseCleared _ load clear => figures load clear
  | .stairCompromised _ load clear incident => figures load clear ++ b1 incident
  | .stairUnavailable _ load clear cause reduced defended =>
    figures load clear ++ b1 cause.ctorIdx ++ b1 reduced ++ b1 defended
  | .stairAvailable _ load clear promoted => figures load clear ++ b1 promoted
  | .bothBarred _ p q => b1 p ++ b1 q
  | .linkLost _ position | .linkRestored _ position => opt1 position
  | .positionOutOfRange _ floor => b1 floor
  | .carState _ old new cause => b1 old.ctorIdx ++ b1 new.ctorIdx ++ opt1 (cause.map (·.ctorIdx))
  | .runStarted _ target budget => b1 target ++ b1 budget
  | .runEndedAbnormally _ cause position passes budget =>
    b1 cause.ctorIdx ++ opt1 position ++ b1 passes ++ b1 budget
  | .carParked _ floor passes redirects | .carShutDown _ floor passes redirects =>
    b1 floor ++ b1 passes ++ b1 redirects
  | .parkedCarMoved _ old target => b1 old ++ b1 target
  | .runAbandoned _ into => b1 into.ctorIdx
  | .runRedirected _ old new budget redirects => b1 old ++ b1 new ++ b1 budget ++ b1 redirects
  | .shaftFlagSet _ incident => b1 incident
  | .carsReleased number => b1 number
  | .lockUnconfirmed _ feedback => b1 feedback.ctorIdx
  | .releaseStarted number => b1 number
  | .doorPreempted _ displacing => b1 displacing
  | .lateUnlock _ outcome => b1 outcome.ctorIdx
  | .supplyFault _ silent dropped => bflag silent ++ b1 dropped
  | .relockHoldStarted due => b4 due
  | .relockDone number => b1 number
  | .contentCut _ cut => b1 cut
  | .tenantEvicted _ prog | .announcementEnded _ prog | .announcementCancelled _ prog
  | .announcementExpired _ prog => b1 prog
  | .contentFallback _ joined => opt1 joined
  | .tenantsSuspended number | .tenantsResumed number => b1 number

/-- The bytes of a report record (Figure 10-5). -/
def ReportRecord.bytes (r : ReportRecord) : List Byte :=
  let body := r.report.body
  b4 r.time ++ b1 r.report.cls.code ++ b1 r.report.code ++ b2 r.report.subject ++ b1 body.length ++ body

end Sys2Proof.Machine
end

