-- ==== Sys2Proof/Machine/QueryCmds.lean ====
section
/-! DEFINITION. The requests that only look: STATUS, QUERY and SCAN_FLOORS (R34, R50, R72, R93, R108, R125, R140,
R155, R160, R161). Each gives the items of its reply body in the order its rule names them. The layout of
fields R166 leaves to general rules is a DESIGN CHOICE (notes/assumptions/10.md). -/

namespace Sys2Proof.Machine

/-- A request that any level meets and that only looks: FORMAT for a body of a wrong form, else its answer. -/
def look {α : Type} (s : State) (b : Option α) (f : α → State × Answer) : State × Answer :=
  match b with
  | none => refuse s .format
  | some x => f x

/-- An answer with a body, or UNKNOWN where what is named is not there. -/
def known {α : Type} (s : State) (o : Option α) (f : α → List (List Byte)) : State × Answer :=
  match o with
  | none => refuse s .unknown
  | some x => accept s (f x)

/-! ## STATUS (R160) -/

/-- The body of STATUS. -/
def State.statusBody (s : State) (l : Link) : List (List Byte) :=
  [ b1 s.regime.regime.ctorIdx, bflag s.regime.drill, b1 s.regime.incidents.length, b1 s.evac.queue.length
  , bflag s.desc.fallback, bflag s.unconfigured, bflag s.desc.storeFault, bflag (s.link l).overflow, b4 s.now ]

/-- STATUS (R160). -/
def execStatus (l : Link) (h : Header) (b : Option Unit) (s : State) : Host.Outcome State Fault Refusal :=
  .next (takeRequest l h 1 (.status l h b) s fun _ => look s b fun _ => accept s (s.statusBody l))

/-! ## QUERY floor (R93) -/

/-- The committed share of a stair, absent when it has none. -/
def Floor.share (x : Floor) (st : Stair) : Option Nat := (x.shares.find? fun y => y.1 == st).map (·.2)

/-- The body of QUERY floor (R93). The seconds remaining to the hold deadline are the deadline, a seconds count (R80), less the
present one. -/
def State.floorBody (s : State) (f : Nat) : List (List Byte) :=
  let x := s.floor f
  let e := s.evac.queue.find? fun e => e.floor == f
  [ b1 x.phase.ctorIdx, bflag x.core, routeField x.route
  , allStairs.flatMap fun st => opt2 (x.share st)
  , b2 x.occupancy, optTime (e.map (·.entry)), optTime (e.map (·.deadline)), b4 x.phaseTime
  , opt1 ((s.evac.queue.findIdx? fun e => e.floor == f).map (· + 1))
  , opt2 (e.map fun e => s.secondsTo e.deadline), bflag (s.directExit f)
  , b1 ((s.candidates f).map stairBit).sum ]

/-- QUERY floor (R93): a floor that is not in use is UNKNOWN. -/
def execQueryFloor (l : Link) (h : Header) (b : Option Nat) (s : State) : Host.Outcome State Fault Refusal :=
  .next (takeRequest l h 3 (.queryFloor l h b) s fun _ => look s b fun f =>
    if f < s.fc then accept s (s.floorBody f) else refuse s .unknown)

/-! ## QUERY stair (R108) -/

/-- The number of floors in EVACUATE whose route holds a stair. -/
def State.routedFloors (s : State) (x : Stair) : Nat :=
  (s.floors.filter fun f => (s.floor f).phase == .evacuate &&
    match (s.floor f).route with | .stairs l => l.contains x | .empty | .direct => false).length

/-- The body of QUERY stair. The availability is a flag, 1 for available, and the clear time, a live field of R94 that R108
names again, is carried once, after it (DESIGN CHOICE, notes/assumptions/10.md). -/
def State.stairBody (s : State) (x : Stair) (r : StairRec) : List (List Byte) :=
  let live := s.stairs.stair x
  let fig := s.stairFigures s.stairs x
  [ b1 r.low, b1 r.high, b1 r.weight, b2 r.capacity, b1 r.drain, b2 r.phrase, b1 (if r.inUse then 0 else 1)
  , b2 live.load, bflag live.saturated, bflag live.compromised, bflag (s.available x), b2 fig.2
  , opt1 (s.stairs.drainTimer.map s.secondsLeft), b1 (s.routedFloors x) ]

/-- QUERY stair (R108). -/
def execQueryStair (l : Link) (h : Header) (b : Option Nat) (s : State) : Host.Outcome State Fault Refusal :=
  .next (takeRequest l h 3 (.queryStair l h b) s fun _ => look s b fun n =>
    match stairOf n with
    | none => refuse s .unknown
    | some x => known s (s.stairRec x) (s.stairBody x))

/-! ## QUERY car and bank (R125) -/

/-- The fields of a run in progress. The redirect count, to which R114 gives no range, takes one byte (DESIGN CHOICE,
notes/assumptions/10.md). -/
def State.runBody (s : State) (r : Run) : List (List Byte) :=
  [ b1 r.target, b1 r.budget, b1 r.passes, b1 r.redirects, b4 r.start, opt2 (r.travelTimer.map s.secondsLeft)
  , opt1 (r.parkTimer.map s.secondsLeft) ]

/-- The body of QUERY car. -/
def State.carBody (s : State) (rec : CarRec) (x : CarLive) : List (List Byte) :=
  [ b1 (bankNumber rec.bank), b1 rec.address, b1 x.state.ctorIdx, opt1 (x.cause.map (·.ctorIdx)), bflag x.awaiting
  , opt1 x.position, opt1 (x.motion.map (·.ctorIdx)), opt1 (x.doors.map (·.ctorIdx)), opt1 (x.mode.map (·.ctorIdx))
  , bflag x.outOfRange, opt1 x.parked ]
    ++ match x.run with
      | some r => s.runBody r
      | none => []

/-- QUERY car (R125). -/
def execQueryCar (l : Link) (h : Header) (b : Option Nat) (s : State) : Host.Outcome State Fault Refusal :=
  .next (takeRequest l h 3 (.queryCar l h b) s fun _ => look s b fun n =>
    match s.desc.building.cars.get n, s.lifts.cars.get n with
    | some rec, some x => accept s (s.carBody rec x)
    | _, _ => refuse s .unknown)

/-- The state of a car, for a list of cars. -/
def State.carItem (s : State) (n : Nat) : List Byte :=
  b1 n ++ opt1 ((s.lifts.cars.get n).map fun c => c.state.ctorIdx)

/-- The body of QUERY bank: of a bank with no record only the shaft flag (R125). -/
def State.bankBody (s : State) (bank : Bank) : List (List Byte) :=
  let live := s.lifts.bank bank
  match s.bankRec bank with
  | none => [bflag live.shaft]
  | some r =>
    [ b1 r.p, b1 r.q, b1 r.low, b1 r.high, bflag live.pBarred, bflag live.qBarred, bflag live.bothReported
    , bflag live.shaft, b1 (recallFloor r live), b1 (s.bankCars bank).length ]
      ++ (s.bankCars bank).map s.carItem

/-- QUERY bank (R125). A bank other than 1 and 2, of which R125 says nothing, is UNKNOWN (DEDUCED, notes/assumptions/46.md). -/
def execQueryBank (l : Link) (h : Header) (b : Option Nat) (s : State) : Host.Outcome State Fault Refusal :=
  .next (takeRequest l h 3 (.queryBank l h b) s fun _ => look s b fun n => known s (bankOf n) s.bankBody)

/-! ## QUERY door and section (R140) -/

/-- What the verify timer of a door runs for: 0 not running, then in the order of R126. -/
def verifyCode : Option (Verify × Nat) → Nat
  | none => 0
  | some (.release, _) => 1
  | some (.lock, _) => 2

/-- The body of QUERY door. The demand, which R126 lists as present or absent, is a flag, 1 for present and 0 for absent (DESIGN
CHOICE, notes/assumptions/10.md). -/
def State.doorBody (s : State) (n : Nat) (rec : DoorRec) (d : DoorLive) : List (List Byte) :=
  let waiting := match s.doors.sections.get rec.sec with | some x => x.waiting | none => []
  [ b1 rec.sec, bflag rec.reentry, b1 (doorFloor n), b1 n, b1 d.state.ctorIdx, b1 d.override.ctorIdx
  , bflag (d.state != .locked), opt1 d.cls, optTime d.demanded, optTime d.granted, bflag d.retryUsed
  , b1 d.feedback.ctorIdx, b1 (verifyCode d.verify), opt1 (d.verify.map fun v => s.secondsLeft v.2)
  , opt1 ((waiting.findIdx? fun m => m == n).map (· + 1)) ]

/-- The door a floor and a stair name, if its record is present. -/
def State.doorOf (s : State) (x : DoorRef) : Option Nat :=
  match stairOf x.stair with
  | none => none
  | some st =>
    let n := doorNumber x.floor st
    if x.floor < s.fc ∧ s.desc.building.doors.has n ∧ s.doors.doors.has n then some n else none

/-- QUERY door (R140). -/
def execQueryDoor (l : Link) (h : Header) (b : Option DoorRef) (s : State) : Host.Outcome State Fault Refusal :=
  .next (takeRequest l h 3 (.queryDoor l h b) s fun _ => look s b fun x =>
    match s.doorOf x with
    | none => refuse s .unknown
    | some n =>
      match s.desc.building.doors.get n, s.doors.doors.get n with
      | some rec, some d => accept s (s.doorBody n rec d)
      | _, _ => refuse s .unknown)

/-- A granted door with its class and grant time. -/
def State.grantItem (s : State) (n : Nat) : List Byte :=
  match s.doors.doors.get n with
  | some d => b1 n ++ opt1 d.cls ++ optTime d.granted
  | none => b1 n ++ opt1 none ++ optTime none

/-- A waiting door with its class and demand time. -/
def State.waitingItem (s : State) (n : Nat) : List Byte :=
  match s.doors.doors.get n with
  | some d => b1 n ++ opt1 d.cls ++ optTime d.demanded
  | none => b1 n ++ opt1 none ++ optTime none

/-- The number of STUCK doors of a section. -/
def State.stuckDoors (s : State) (sec : Nat) : Nat :=
  (s.doors.doors.rows.filter fun r => r.2.state == .stuck && s.doorSection r.1 == sec).length

/-- The body of QUERY section. -/
def State.sectionBody (s : State) (sec capacity : Nat) (x : SectionLive) : List (List Byte) :=
  [b1 capacity, b1 (if x.ok then 0 else 1), b1 (s.effectiveCapacity sec x), b1 x.grants.length]
    ++ x.grants.map s.grantItem ++ [b1 x.waiting.length] ++ x.waiting.map s.waitingItem
    ++ [b1 (s.stuckDoors sec), opt2 (s.doors.relockTimer.map s.secondsLeft)]

/-- QUERY section (R140). -/
def execQuerySection (l : Link) (h : Header) (b : Option Nat) (s : State) : Host.Outcome State Fault Refusal :=
  .next (takeRequest l h 3 (.querySection l h b) s fun _ => look s b fun sec =>
    match s.desc.building.sections.get sec, s.doors.sections.get sec with
    | some capacity, some x => accept s (s.sectionBody sec capacity x)
    | _, _ => refuse s .unknown)

/-! ## QUERY zone and range (R50) -/

/-- A kind of zone by its position in R36, where NONE is 0. -/
def areaKindCode (a : Area) : Nat := a.kind.code + 1

/-- The stair or bank of a kind that has one. -/
def kindField : IncidentKind → List Byte
  | .floor => []
  | .manual => []
  | .stair x => b1 (stairNumber x)
  | .shaft x => b1 (bankNumber x)

/-- The fields of a descriptor (R36), `less` taken off the span: nothing in a QUERY reply, 1 in the reply to a
SET_ZONE, which carries the span as a SET_ZONE does (Figure 10-6). Fields a kind has not are left out, those of a zone of kind
NONE too, and the points per floor take one byte (DESIGN CHOICE, notes/assumptions/10.md). -/
def Zone.items (z : Zone) (less : Nat) : List (List Byte) :=
  (match z.area with
    | none => [b1 0]
    | some a => [b1 (areaKindCode a), b1 a.base, b1 (a.span - less), b1 a.ppf, b2 a.limit, kindField a.kind])
    ++ [b1 z.lock, bflag z.isolated, b2 z.revision.toNat]

/-- The number of ranges naming a zone. -/
def State.zoneRanges (s : State) (z : Nat) : Nat := (s.desc.map.ranges.filter fun r => r.zone == z).length

/-- QUERY zone (R50). -/
def execQueryZone (l : Link) (h : Header) (b : Option Nat) (s : State) : Host.Outcome State Fault Refusal :=
  .next (takeRequest l h 3 (.queryZone l h b) s fun _ => look s b fun z =>
    if isZone z then
      accept s ((s.zone z).items 0 ++ [b2 (s.zoneRanges z), b2 (s.zoneAlarms z).length])
    else refuse s .unknown)

/-- The fields of a range. -/
def Range.item (r : Range) : List Byte := b1 (portNumber r.port) ++ b2 r.first ++ b2 r.count ++ b1 r.zone

/-- A port floor range: low floor and high floor, each all ones for "whole building" (Figure 10-6). -/
def floorRangeField : Option (Nat × Nat) → List Byte
  | some x => b1 x.1 ++ b1 x.2
  | none => b1 255 ++ b1 255

/-- The outcome of a translation as a reply gives it: 0 located, 1 isolated, 2 unlocated with the port floor range
(R50). The leading byte is a DESIGN CHOICE (notes/assumptions/10.md). -/
def translationItems (range : Option (Nat × Nat)) : Translation → List (List Byte)
  | .located r => [b1 0, b1 r.first, b2 r.count, b1 r.zone]
  | .isolated _ => [b1 1]
  | .unlocated reason _ => [b1 2, b1 reason.ctorIdx, floorRangeField range]

/-- The body of QUERY range: 1 and the fields of the range, or 0 alone for "no range" (DESIGN CHOICE,
notes/assumptions/10.md), and then the translation. -/
def State.rangeBody (s : State) (p : Port) (n : Nat) : List (List Byte) :=
  (match s.rangeOf p n with
    | some r => [b1 1, r.item]
    | none => [b1 0]) ++ translationItems (s.portRec p).range (s.translate p n)

/-- QUERY range (R50). -/
def execQueryRange (l : Link) (h : Header) (b : Option PointRef) (s : State) : Host.Outcome State Fault Refusal :=
  .next (takeRequest l h 3 (.queryRange l h b) s fun _ => look s b fun x =>
    match portOf x.port with
    | none => refuse s .unknown
    | some p => if isPoint x.point then accept s (s.rangeBody p x.point) else refuse s .unknown)

/-! ## QUERY incident (R72) -/

/-- A latched copy, with a flag ahead of it: a byte 1 and then the copy, or a byte 0 alone for an absent one, since Figure 10-6
gives all ones for an absent time or count only (DESIGN CHOICE, notes/assumptions/10.md). -/
def latchedItems : Option Latched → List (List Byte)
  | none => [b1 0]
  | some c => [b1 1, b1 (c.kind.code + 1), b1 c.base, b1 c.span, b1 c.ppf, kindField c.kind, b2 c.revision.toNat]

/-- Every field of an incident record (R54). -/
def Incident.items (i : Incident) : List (List Byte) :=
  [b1 i.number, b1 i.zone, b1 i.kind.code] ++ latchedItems i.latched
    ++ [ b1 i.first, b2 i.count, optPoint i.origin, b4 i.opened, b2 i.points, bflag i.clear, bflag i.stale
       , bflag i.drill ]

/-- The entry of an incident in the list: its number, identity, count and flags. -/
def Incident.entry (i : Incident) : List Byte :=
  b1 i.number ++ b1 i.zone ++ b1 i.first ++ b2 i.points ++ bflag i.clear ++ bflag i.stale ++ bflag i.drill

/-- The body of QUERY incident 0. -/
def State.incidentList (s : State) : List (List Byte) :=
  b1 s.regime.incidents.length :: s.regime.incidents.map (·.entry)

/-- QUERY incident (R72). -/
def execQueryIncident (l : Link) (h : Header) (b : Option Nat) (s : State) : Host.Outcome State Fault Refusal :=
  .next (takeRequest l h 3 (.queryIncident l h b) s fun _ => look s b fun n =>
    if n = 0 then accept s s.incidentList else known s (s.regime.find n) (·.items))

/-! ## QUERY instance (R155) -/

/-- The position of a kind in the table of R142 that gives all five. -/
def progKindCode : ProgKind → Nat
  | .evacuate => 0
  | .defend => 1
  | .alert => 2
  | .allclear => 3
  | .tenant => 4

/-- A listener with its state: 0 CONNECTED, 1 PENDING. -/
def State.listenerItem (s : State) (f : Nat) : List Byte :=
  b1 f ++ b1 (if (s.audio.floor f).connected then 0 else 1)

/-- A tenant list entry with the seconds left to its expiry. -/
def State.tenantItems (s : State) (e : TenantEntry) : List (List Byte) :=
  [b1 e.station, b1 e.floors.length] ++ e.floors.map b1 ++ [b1 e.phrases.length] ++ e.phrases.map b2
    ++ [b1 e.times, b1 e.gap, opt2 e.expiry, opt2 (e.timer.map s.secondsLeft)]

/-- The body of QUERY instance. The listener floors are carried as a list, each with its state (DESIGN CHOICE,
notes/assumptions/10.md). -/
def State.progBody (s : State) (n : Nat) (p : Prog) : List (List Byte) :=
  [b1 n, b1 (progKindCode p.kind), b1 p.kind.cls, b1 p.phrases.length] ++ p.phrases.map b2
    ++ [b1 p.times, opt1 p.remaining, b1 p.index, b1 p.gap, b1 (s.audio.listeners n).length]
    ++ (s.audio.listeners n).map s.listenerItem
    ++ [ b1 p.state.ctorIdx, opt1 p.engine, bflag p.started, bflag p.expiring, b4 p.created, optTime p.start ]
    ++ match s.audio.entryOf n with
      | some e => s.tenantItems e
      | none => []

/-- An instance in the table. -/
def progItem (r : Nat × Prog) : List Byte :=
  b1 r.1 ++ b1 (progKindCode r.2.kind) ++ b1 r.2.state.ctorIdx ++ opt1 r.2.engine

/-- A list with its count. -/
def counted {α : Type} (l : List α) (f : α → List Byte) : List (List Byte) := b1 l.length :: l.map f

/-- The zone switches that are closed, with their engines. -/
def AudioUnit.closedSwitches (u : AudioUnit) : List (Nat × Nat) :=
  (List.range Config.floorSlots).filterMap fun f => (u.zoneSwitch f).map fun e => (f, e)

/-- The body of QUERY instance 0. The closed switches and the floors with a placement or a fault flag are carried as lists
(DESIGN CHOICE, notes/assumptions/10.md). -/
def State.progTable (s : State) : List (List Byte) :=
  let rows := s.audio.floors.rows
  counted s.audio.progs.rows progItem
    ++ (span 1 Config.engineCount).map (fun e => opt1 ((s.audio.engineProg e).map (·.1)))
    ++ counted s.audio.closedSwitches (fun x => b1 x.1 ++ b1 x.2)
    ++ counted (rows.filter fun r => r.2.placement != .normal) (fun r => b1 r.1 ++ b1 r.2.placement.ctorIdx)
    ++ counted (rows.filter fun r => r.2.fault) (fun r => b1 r.1)

/-- QUERY instance (R155). -/
def execQueryInstance (l : Link) (h : Header) (b : Option Nat) (s : State) : Host.Outcome State Fault Refusal :=
  .next (takeRequest l h 3 (.queryInstance l h b) s fun _ => look s b fun n =>
    if n = 0 then accept s s.progTable else known s (s.audio.progs.get n) (s.progBody n))

/-! ## QUERY port and point (R34) -/

/-- The body of QUERY port. -/
def State.portBody (s : State) (p : Port) : List (List Byte) :=
  let x := s.port p
  [ b1 (s.portRec p).mode.ctorIdx, b1 x.state.ctorIdx, b1 x.missed, bflag x.resync.isSome
  , opt2 (x.resync.map fun r => r.named.length), opt1 (x.resetTimer.map s.secondsLeft)
  , b2 (s.panel.portPoints p (· == .alarm)).length, b2 (s.panel.portPoints p (· == .fault)).length ]

/-- QUERY port (R34). -/
def execQueryPort (l : Link) (h : Header) (b : Option Nat) (s : State) : Host.Outcome State Fault Refusal :=
  .next (takeRequest l h 3 (.queryPort l h b) s fun _ => look s b fun n => known s (portOf n) s.portBody)

/-- The body of QUERY point. The codes of the line classes follow the sentence of R21 that lists them: NORMAL, ALARM, OPEN,
SHORT (DESIGN CHOICE, notes/assumptions/10.md). -/
def State.pointBody (s : State) (p : Port) (n : Nat) : List (List Byte) :=
  let x := s.point p n
  let i := (s.port p).input n
  [b1 x.condition.ctorIdx, bflag x.short, b1 x.incident, b4 x.changed]
    ++ if s.serial p then []
      else [b1 i.held.ctorIdx, opt1 (i.candidate.map fun c => c.cls.ctorIdx)]

/-- Whether a request can name a point: 1 to 32 on a CONTACT port, 1 to 1023 on a SERIAL one (R34). -/
def State.namesPoint (s : State) (p : Port) (n : Nat) : Bool := if s.serial p then isPoint n else isInput n

/-- QUERY point (R34). A port other than P1 to P4, of which R34 says nothing here, is UNKNOWN (DEDUCED,
notes/assumptions/46.md). -/
def execQueryPoint (l : Link) (h : Header) (b : Option PointRef) (s : State) : Host.Outcome State Fault Refusal :=
  .next (takeRequest l h 3 (.queryPoint l h b) s fun _ => look s b fun x =>
    match portOf x.port with
    | none => refuse s .unknown
    | some p => if s.namesPoint p x.point then accept s (s.pointBody p x.point) else refuse s .unknown)

/-! ## SCAN_FLOORS (R161) -/

/-- A phase's place in the order NORMAL, ALERT, EVACUATE, DEFEND; STANDDOWN has none. -/
def phaseOrder : Phase → Option Nat
  | .normal => some 0
  | .alert => some 1
  | .evacuate => some 2
  | .defend => some 3
  | .standdown => none

/-- Whether a floor's phase matches the phase and comparison of a SCAN_FLOORS. -/
def scanHolds (x : Scan) (p : Phase) : Bool :=
  match x.comparison with
  | .equal => p == x.phase
  | .atLeast => match phaseOrder x.phase, phaseOrder p with | some a, some b => a ≤ b | _, _ => false
  | .atMost => match phaseOrder x.phase, phaseOrder p with | some a, some b => b ≤ a | _, _ => false

/-- The floors a SCAN_FLOORS matches, ascending. -/
def State.scan (s : State) (x : Scan) : List Nat := s.floors.filter fun f => scanHolds x (s.floor f).phase

/-- SCAN_FLOORS (R161). -/
def execScanFloors (l : Link) (h : Header) (b : Option Scan) (s : State) : Host.Outcome State Fault Refusal :=
  .next (takeRequest l h 4 (.scanFloors l h b) s fun _ => look s b fun x => accept s (counted (s.scan x) b1))

end Sys2Proof.Machine
end

