-- ==== Sys2Proof/Machine/AudioCmds.lean ====
section
/-! DEFINITION. ANNOUNCE, CANCEL_ANNOUNCE and the events of the Announcement Unit (R148 to R150, R152 to R154). -/

namespace Sys2Proof.Machine

/-! ## ANNOUNCE (R152) -/

/-- Whether an announcement has its form: floors named, none twice, and 1 to 16 phrases (R152). -/
def announcementForm (x : Announcement) : Bool :=
  !x.floors.isEmpty && distinct x.floors && 1 ≤ x.phrases.length && x.phrases.length ≤ Config.phraseLimit

/-- An accepted announcement: its program takes the lowest free number (R141, R152). -/
def State.announce (s : State) (station : Nat) (x : Announcement) : State × Answer :=
  match s.audio.freeNumber with
  | none => refuse s .full
  | some n =>
    (s.onAudio (makeAnnouncement s n station (clamp 0 120 x.gap) x), ⟨.done (moved 0 120 x.gap) false, [b1 n]⟩)

/-- ANNOUNCE carried out (R152). -/
def State.takeAnnounce (s : State) (station : Nat) (b : Option Announcement) : State × Answer :=
  if s.unconfigured || s.regime.regime != .normal then refuse s .state
  else
    match b with
    | none => refuse s .format
    | some x =>
      if !announcementForm x then refuse s .format
      else if x.floors.any (s.fc ≤ ·) || x.phrases.any fun p => !s.desc.building.phrases.has p then refuse s .unknown
      else if Config.tenantCapacity ≤ s.audio.tenants.length then refuse s .full
      else s.announce station x

/-- ANNOUNCE (R152). -/
def execAnnounce (l : Link) (h : Header) (b : Option Announcement) (s : State) : Host.Outcome State Fault Refusal :=
  .next (takeRequest l h 32 (.announce l h b) s fun _ => s.takeAnnounce h.station b)

/-! ## CANCEL_ANNOUNCE (R153) -/

/-- Whether a program has been marked by its entry's expiry and ends by it at the next phrase end (R154). -/
def AudioUnit.expiring (u : AudioUnit) (n : Nat) : Bool :=
  match u.progs.get n with
  | some p => p.expiring
  | none => false

/-- CANCEL_ANNOUNCE carried out (R153). A program its expiry has marked ends by that expiry, and a cancellation finds no
entry (R154, DEDUCED, notes/assumptions/38.md). -/
def State.cancelAnnounce (s : State) (station level n : Nat) : State × Answer :=
  match s.audio.entryOf n with
  | none => refuse s .unknown
  | some e =>
    if s.audio.expiring n then refuse s .unknown
    else if level = 3 ∧ station ≠ e.station then refuse s .level
    else accept (s.onAudio (finishProg s n [.announcementCancelled e.station n])) []

/-- CANCEL_ANNOUNCE (R153). -/
def execCancelAnnounce (l : Link) (h : Header) (b : Option Nat) (s : State) : Host.Outcome State Fault Refusal :=
  .next (takeRequest l h 33 (.cancelAnnounce l h b) s fun level =>
    if s.unconfigured then refuse s .state
    else
      match b with
      | none => refuse s .format
      | some n => s.cancelAnnounce h.station level n)

/-! ## Events -/

/-- PHRASE_END (R148, R149). -/
def execPhraseEnd (engine : Nat) (s : State) : Host.Outcome State Fault Refusal := .next (s.phraseEnds engine)

/-- GAP_TIMER_EXPIRY (R149). -/
def execGapTimerExpiry (number : Nat) (s : State) : Host.Outcome State Fault Refusal :=
  .next (s.onAudio (gapEnd s number))

/-- TENANT_EXPIRY (R154). -/
def execTenantExpiry (number : Nat) (s : State) : Host.Outcome State Fault Refusal :=
  .next (s.onAudio (tenantExpiry s number))

/-- ZONE_LINE_FAULT (R150). -/
def execZoneLineFault (floor : Nat) (s : State) : Host.Outcome State Fault Refusal :=
  .next (s.onAudio (zoneLine floor true))

/-- ZONE_LINE_RESTORED (R150). -/
def execZoneLineRestored (floor : Nat) (s : State) : Host.Outcome State Fault Refusal :=
  .next (s.onAudio (zoneLine floor false))

end Sys2Proof.Machine
end

