-- ==== Sys2Proof/Machine/CarCmds.lean ====
section
/-! DEFINITION. CAR_COMMAND and the events of the Lift Recall Unit (R111, R112, R117, R121, R122). -/

namespace Sys2Proof.Machine

/-- The checks both actions of CAR_COMMAND share, in the order of R121. -/
def carCommand (s : State) (level : Nat) (b : Option Nat) (f : Nat → CarLive → State × Answer) : State × Answer :=
  if 1 < level then refuse s .level
  else
    match b with
    | none => refuse s .format
    | some n =>
      if s.unconfigured then refuse s .state
      else
        match s.lifts.cars.get n with
        | none => refuse s .unknown
        | some c => f n c

/-- Whether CAR_COMMAND RECALL may start a run for a car: in AUTO, PARKED or RECALLING, with a position (R114, R121,
notes/assumptions/23.md). -/
def CarLive.recallable (c : CarLive) : Bool :=
  !c.awaiting && c.position.isSome && (c.state == .auto || c.state == .parked || c.state == .recalling)

/-- The reply of CAR_COMMAND RECALL: the new run's target and budget (R121). -/
def carRecalled (s : State) (n : Nat) : State × Answer :=
  match s.lifts.cars.get n with
  | some c => accept s (match c.run with | some r => [b1 r.target, b1 r.budget] | none => [])
  | none => accept s []

/-- CAR_COMMAND RECALL (R121). -/
def execCarCommandRecall (l : Link) (h : Header) (b : Option Nat) (s : State) : Host.Outcome State Fault Refusal :=
  .next (takeRequest l h 31 (.carCommandRecall l h b) s fun level => carCommand s level b fun n c =>
    if s.regime.recalls && c.recallable then carRecalled (s.onLifts (startRun s n)) n else refuse s .state)

/-- The reply of CAR_COMMAND RETURN: the car's state after the command (R122). -/
def carReturned (s : State) (n : Nat) : State × Answer :=
  match s.lifts.cars.get n with
  | some c => accept s [b1 c.state.ctorIdx]
  | none => accept s []

/-- CAR_COMMAND RETURN (R122). -/
def execCarCommandReturn (l : Link) (h : Header) (b : Option Nat) (s : State) : Host.Outcome State Fault Refusal :=
  .next (takeRequest l h 31 (.carCommandReturn l h b) s fun level => carCommand s level b fun n c =>
    if !c.awaiting && (c.state == .faulted || c.state == .shutdown) then
      carReturned (s.onLifts (returnCar s n c)) n
    else refuse s .state)

/-- CAR_POLL (R111). -/
def execCarPoll (s : State) : Host.Outcome State Fault Refusal := .next (s.onLifts (carPoll s))

/-- CAR_STATUS_RECORD (R111, R112). -/
def execCarStatusRecord (car : Nat) (record : CarStatus) (s : State) : Host.Outcome State Fault Refusal :=
  .next (s.onLifts (carStatus s car record))

/-- CAR_SILENCE_EXPIRY (R111). -/
def execCarSilenceExpiry (car : Nat) (s : State) : Host.Outcome State Fault Refusal :=
  .next (s.onLifts (carSilence car))

/-- TRAVEL_TIMER_EXPIRY (R117). -/
def execTravelTimerExpiry (car : Nat) (s : State) : Host.Outcome State Fault Refusal :=
  .next (s.onLifts (travelExpiry car))

/-- PARK_CONFIRM_EXPIRY (R117). -/
def execParkConfirmExpiry (car : Nat) (s : State) : Host.Outcome State Fault Refusal :=
  .next (s.onLifts (parkExpiry car))

end Sys2Proof.Machine
end

