-- ==== Sys2Proof/Machine/DoorCmds.lean ====
section
/-! DEFINITION. DOOR_COMMAND and the events of the Door Release Unit (R128, R129, R134, R137 to R139). -/

namespace Sys2Proof.Machine

/-- The checks of DOOR_COMMAND, in the order of R137. -/
def doorCommand (s : State) (level : Nat) (b : Option DoorRef) (f : Nat → State × Answer) : State × Answer :=
  if 1 < level then refuse s .level
  else
    match b with
    | none => refuse s .format
    | some x =>
      if s.unconfigured then refuse s .state
      else
        match s.doorOf x with
        | none => refuse s .unknown
        | some n => f n

/-- The reply of DOOR_COMMAND: the door's state, override and class after the command (R137). -/
def doorCommanded (s : State) (n : Nat) : State × Answer :=
  match s.doors.doors.get n with
  | some d => accept s [b1 d.state.ctorIdx, b1 d.override.ctorIdx, opt1 d.cls]
  | none => accept s []

/-- DOOR_COMMAND FORCE (R137). -/
def execDoorCommandForce (l : Link) (h : Header) (b : Option DoorRef) (s : State) :
    Host.Outcome State Fault Refusal :=
  .next (takeRequest l h 30 (.doorCommandForce l h b) s fun level => doorCommand s level b fun n =>
    doorCommanded (s.onDoors (forceDoor s n)) n)

/-- DOOR_COMMAND HOLD (R137). -/
def execDoorCommandHold (l : Link) (h : Header) (b : Option DoorRef) (s : State) :
    Host.Outcome State Fault Refusal :=
  .next (takeRequest l h 30 (.doorCommandHold l h b) s fun level => doorCommand s level b fun n =>
    doorCommanded (s.onDoors (holdDoor s n)) n)

/-- DOOR_COMMAND NORMAL (R138). -/
def execDoorCommandNormal (l : Link) (h : Header) (b : Option DoorRef) (s : State) :
    Host.Outcome State Fault Refusal :=
  .next (takeRequest l h 30 (.doorCommandNormal l h b) s fun level => doorCommand s level b fun n =>
    doorCommanded (s.onDoors (normalDoor s n)) n)

/-- Whether a door is STUCK. -/
def DoorUnit.stuck (u : DoorUnit) (n : Nat) : Bool :=
  match u.doors.get n with
  | some d => d.state == .stuck
  | none => false

/-- DOOR_COMMAND RETRY (R138). -/
def execDoorCommandRetry (l : Link) (h : Header) (b : Option DoorRef) (s : State) :
    Host.Outcome State Fault Refusal :=
  .next (takeRequest l h 30 (.doorCommandRetry l h b) s fun level => doorCommand s level b fun n =>
    if s.doors.stuck n then doorCommanded (s.onDoors (retryDoor s n)) n else refuse s .state)

/-- DOOR_LOOP_POLL (R128). -/
def execDoorLoopPoll (s : State) : Host.Outcome State Fault Refusal := .next (s.onDoors (doorLoopPoll s))

/-- NODE_ANSWER (R128). -/
def execNodeAnswer (floor : Nat) (unlocked : NodeFeedback) (s : State) : Host.Outcome State Fault Refusal :=
  .next (s.onDoors (nodeAnswer s floor unlocked))

/-- NODE_SILENCE_EXPIRY (R128). -/
def execNodeSilenceExpiry (floor : Nat) (s : State) : Host.Outcome State Fault Refusal :=
  .next (s.onDoors (nodeSilence s floor))

/-- SUPPLY_UNIT_ANSWER (R128, R136). -/
def execSupplyUnitAnswer (sec : Nat) (ok : Bool) (s : State) : Host.Outcome State Fault Refusal :=
  .next (s.onDoors (supplyAnswer s sec ok))

/-- SUPPLY_SILENCE_EXPIRY (R128, R136). -/
def execSupplySilenceExpiry (sec : Nat) (s : State) : Host.Outcome State Fault Refusal :=
  .next (s.onDoors (supplySilence s sec))

/-- RELEASE_VERIFY_EXPIRY (R134). -/
def execReleaseVerifyExpiry (floor : Nat) (stair : Stair) (s : State) : Host.Outcome State Fault Refusal :=
  .next (s.onDoors (releaseVerify s (doorNumber floor stair)))

/-- LOCK_VERIFY_EXPIRY (R129). -/
def execLockVerifyExpiry (floor : Nat) (stair : Stair) (s : State) : Host.Outcome State Fault Refusal :=
  .next (s.onDoors (lockVerify (doorNumber floor stair)))

/-- RELOCK_HOLD_EXPIRY (R139, R71). -/
def execRelockHoldExpiry (s : State) : Host.Outcome State Fault Refusal := .next s.relockExpiry

end Sys2Proof.Machine
end

