-- ==== Sys2Proof/Machine/FloorCmds.lean ====
section
/-! DEFINITION. FLOOR_COMMAND, and the events of the Evacuation Controller and the Stair Load Unit (R81, R86 to
R88, R99). -/

namespace Sys2Proof.Machine

/-- The checks of FLOOR_COMMAND, in the order of R86. -/
def floorCommand (s : State) (level : Nat) (b : Option Nat) (f : Nat → State × Answer) : State × Answer :=
  if 1 < level then refuse s .level
  else
    match b with
    | none => refuse s .format
    | some n =>
      if s.unconfigured || s.regime.regime == .normal || s.regime.regime == .standdown then refuse s .state
      else if s.fc ≤ n then refuse s .unknown
      else f n

/-- The reply of FLOOR_COMMAND: the floor's phase, route and queue position as they then stand (R86). -/
def floorCommanded (s : State) (f : Nat) : State × Answer :=
  let x := s.floor f
  accept s [ b1 x.phase.ctorIdx, routeField x.route
           , opt1 ((s.evac.queue.findIdx? fun e => e.floor == f).map (· + 1)) ]

/-- FLOOR_COMMAND EVACUATE (R86). -/
def execFloorCommandEvacuate (l : Link) (h : Header) (b : Option Nat) (s : State) :
    Host.Outcome State Fault Refusal :=
  .next (takeRequest l h 29 (.floorCommandEvacuate l h b) s fun level => floorCommand s level b fun f =>
    floorCommanded (s.commandEvacuate f) f)

/-- FLOOR_COMMAND DEFEND (R87). -/
def execFloorCommandDefend (l : Link) (h : Header) (b : Option Nat) (s : State) :
    Host.Outcome State Fault Refusal :=
  .next (takeRequest l h 29 (.floorCommandDefend l h b) s fun level => floorCommand s level b fun f =>
    floorCommanded (s.commandDefend f) f)

/-- FLOOR_COMMAND ALERT (R88). -/
def execFloorCommandAlert (l : Link) (h : Header) (b : Option Nat) (s : State) :
    Host.Outcome State Fault Refusal :=
  .next (takeRequest l h 29 (.floorCommandAlert l h b) s fun level => floorCommand s level b fun f =>
    if s.regime.regime = .general then refuse s .state
    else if s.regime.incidents.any fun i => i.covers f then refuse s .inIncident
    else floorCommanded (s.commandAlert f) f)

/-- HOLD_TIMER_EXPIRY (R81). -/
def execHoldTimerExpiry (floor : Nat) (s : State) : Host.Outcome State Fault Refusal := .next (s.holdExpiry floor)

/-- The drain timer expires: the stairs are drained, and the head is tested (R82, R99). -/
def State.drain (s : State) : State :=
  if s.stairs.drainTimer.isSome then ((s.onStairs (drainAll s)).headTest).takeNotices else s

/-- DRAIN_TIMER_EXPIRY (R99). -/
def execDrainTimerExpiry (s : State) : Host.Outcome State Fault Refusal := .next s.drain

end Sys2Proof.Machine
end

