-- ==== Sys2Proof/Machine/Frames.lean ====
section
/-! DEFINITION. The frames of the links (Figures 10-3, 10-4 and 10-6, R156, R166): the CRC, the bytes of a reply,
and the request that the bytes of a frame spell. -/

namespace Sys2Proof.Machine

/-! ## The CRC (R156) -/

/-- One bit fed to the CRC register of x^16 + x^12 + x^5 + 1. -/
def crcBit (c : BitVec 16) (bit : Bool) : BitVec 16 :=
  if c.msb == bit then c <<< 1 else (c <<< 1) ^^^ 0x1021#16

/-- One byte fed to the CRC, most significant bit first. -/
def crcByte (c : BitVec 16) (b : Byte) : BitVec 16 :=
  crcBit (crcBit (crcBit (crcBit (crcBit (crcBit (crcBit (crcBit c
    (b.getLsbD 7)) (b.getLsbD 6)) (b.getLsbD 5)) (b.getLsbD 4)) (b.getLsbD 3)) (b.getLsbD 2)) (b.getLsbD 1))
    (b.getLsbD 0)

/-- The CRC of bytes, started from all ones (R156). -/
def crc (bytes : List Byte) : BitVec 16 := bytes.foldl crcByte 0xFFFF#16

/-- The start byte (Figure 10-3). -/
def startByte : Byte := 0xA5#8

/-- Bytes framed: the start byte, the length, the bytes, and the CRC over the length and the bytes, high byte
first. -/
def frame (bytes : List Byte) : List Byte :=
  let counted := BitVec.ofNat 8 bytes.length :: bytes
  startByte :: counted ++ b2 (crc counted).toNat

/-! ## Replies (Figure 10-4) -/

/-- The code of a refusal's reason: its place in Figure 10-4, counted from 1. -/
def Reason.code : Reason → Nat
  | .level => 1 | .state => 2 | .unknown => 3 | .full => 4 | .overlap => 5 | .pointsActive => 6
  | .inIncident => 7 | .isolated => 8 | .format => 9

/-- The outcome byte. -/
def Verdict.outcome : Verdict → Nat
  | .done _ _ => 0 | .refused _ => 1 | .invalid => 2

/-- The byte of indications and reason. -/
def Verdict.indications : Verdict → Nat
  | .done clamped notKept => (if clamped then 128 else 0) + (if notKept then 64 else 0)
  | .refused reason => reason.code
  | .invalid => 0

/-- The bytes of a reply frame. -/
def Reply.frame (r : Reply) : List Byte :=
  Sys2Proof.Machine.frame
    (b1 (r.station * 16 + r.level) ++ b1 r.tag ++ b1 r.kind ++ b1 r.verdict.outcome ++ b1 r.verdict.indications
      ++ b1 r.waiting ++ r.body)

/-! ## Kind codes (R166) -/

/-- The kind code of a request: its position in Figure 10-2, counted from 1. Events of the equipment and of the
line have none. -/
def Instr.kind : Instr → Option Nat
  | .status .. => some 1
  | .fetchReports .. => some 2
  | .queryFloor .. | .queryStair .. | .queryCar .. | .queryBank .. | .queryDoor .. | .querySection ..
  | .queryZone .. | .queryRange .. | .queryIncident .. | .queryInstance .. | .queryPort .. | .queryPoint .. => some 3
  | .scanFloors .. => some 4
  | .setOccupancy .. => some 5
  | .adjustOccupancy .. => some 6
  | .setBuilding .. => some 7
  | .setFloor .. => some 8
  | .setStair .. => some 9
  | .setBank .. => some 10
  | .setCar .. => some 11
  | .setSection .. => some 12
  | .setDoor .. => some 13
  | .setPhrase .. => some 14
  | .setTemplate .. => some 15
  | .setPort .. => some 16
  | .setZone .. => some 17
  | .setRange .. => some 18
  | .clearRange .. => some 19
  | .isolateZone .. => some 20
  | .restoreZone .. => some 21
  | .stairUse .. => some 22
  | .relatch .. => some 23
  | .panelReset .. => some 24
  | .startDrill .. => some 25
  | .endDrill .. => some 26
  | .general .. => some 27
  | .standDown .. => some 28
  | .floorCommandEvacuate .. | .floorCommandDefend .. | .floorCommandAlert .. => some 29
  | .doorCommandForce .. | .doorCommandHold .. | .doorCommandNormal .. | .doorCommandRetry .. => some 30
  | .carCommandRecall .. | .carCommandReturn .. => some 31
  | .announce .. => some 32
  | .cancelAnnounce .. => some 33
  | .invalidKind _ _ kind | .badClaimedLevel _ _ _ kind => some kind
  | .coldStart .. | .frameCrcDiscard .. | .frameHeldDiscard .. | .heldFrameTaken .. | .lineBreak ..
  | .receiverSilenceExpiry .. | .measuredClassChange .. | .debounceExpiry .. | .pointEvent ..
  | .panelRecordDiscarded .. | .pollTimerExpiry .. | .pollAnswer .. | .answerTimerExpiry .. | .listRecord ..
  | .listEnd .. | .resyncTimerExpiry .. | .resetDone .. | .resetTimerExpiry .. | .holdTimerExpiry ..
  | .drainTimerExpiry | .carPoll | .carStatusRecord .. | .carSilenceExpiry .. | .travelTimerExpiry ..
  | .parkConfirmExpiry .. | .doorLoopPoll | .nodeAnswer .. | .nodeSilenceExpiry .. | .supplyUnitAnswer ..
  | .supplySilenceExpiry .. | .releaseVerifyExpiry .. | .lockVerifyExpiry .. | .relockHoldExpiry
  | .phraseEnd .. | .gapTimerExpiry .. | .tenantExpiry .. | .zoneLineFault .. | .zoneLineRestored ..
  | .byteTaken .. => none

/-! ## The bodies of requests (R166) -/

/-- A two-byte field. -/
def word (hi lo : Nat) : Nat := hi * 256 + lo

/-- An optional field of one byte: all ones when absent. -/
def absent1 (n : Nat) : Option Nat := if n = 255 then none else some n

/-- An optional field of two bytes. -/
def absent2 (n : Nat) : Option Nat := if n = 65535 then none else some n

/-- A flag: bit 0 of its byte. The bits above it are ignored, and a byte that has one of them set is not refused FORMAT (DESIGN
CHOICE, notes/assumptions/10.md). -/
def flagOf (n : Nat) : Bool := n % 2 == 1

/-- An empty body. -/
def parseUnit : List Nat → Option Unit
  | [] => some ()
  | _ => none

/-- A body of one byte. -/
def parseOne : List Nat → Option Nat
  | [n] => some n
  | _ => none

def parseDoorRef : List Nat → Option DoorRef
  | [floor, stair] => some { floor := floor, stair := stair }
  | _ => none

def parsePointRef : List Nat → Option PointRef
  | [port, hi, lo] => some { port := port, point := word hi lo }
  | _ => none

/-- The position of a phase in R74. -/
def phaseOf : Nat → Option Phase
  | 0 => some .normal
  | 1 => some .alert
  | 2 => some .evacuate
  | 3 => some .defend
  | 4 => some .standdown
  | _ => none

/-- The position of a comparison in R161. -/
def comparisonOf : Nat → Option Comparison
  | 0 => some .equal
  | 1 => some .atLeast
  | 2 => some .atMost
  | _ => none

def parseScan : List Nat → Option Scan
  | [p, c] =>
    match phaseOf p, comparisonOf c with
    | some p, some c => some { phase := p, comparison := c }
    | _, _ => none
  | _ => none

def parseOccupancySet : List Nat → Option OccupancySet
  | [floor, hi, lo] => some { floor := floor, value := word hi lo }
  | _ => none

/-- A two-byte field in two's complement. -/
def signedWord (hi lo : Nat) : Int := (BitVec.ofNat 16 (word hi lo)).toInt

def parseOccupancyAdjust : List Nat → Option OccupancyAdjust
  | [floor, hi, lo] => some { floor := floor, delta := signedWord hi lo }
  | _ => none

def parseBuilding : List Nat → Option BuildingLoad
  | [fh, fl, street, above, below, threshold, hh, hl, drain, rh, rl, verify, margin, travel, park] =>
    some
      { fc := word fh fl, street := street, coreAbove := absent1 above, coreBelow := absent1 below
        threshold := absent1 threshold, holdMax := absent2 (word hh hl), drainInterval := absent1 drain
        relockHold := absent2 (word rh rl), verifyTime := absent1 verify, recallMargin := absent1 margin
        travelTime := absent1 travel, parkConfirm := absent1 park }
  | _ => none

def parseFloorLoad : List Nat → Option FloorLoad
  | [floor] => some { floor := floor, fields := none }
  | [floor, direct, hi, lo] => some { floor := floor, fields := some ⟨flagOf direct, word hi lo⟩ }
  | _ => none

/-- An in-use value: its position in "in use, out of use" (R7, R102). STAIR_USE refuses another value FORMAT (R102); that
SET_STAIR does so too is a DESIGN CHOICE (notes/assumptions/39.md). -/
def useOf : Nat → Option Bool
  | 0 => some true
  | 1 => some false
  | _ => none

def parseStairLoad : List Nat → Option StairLoad
  | [stair] => some { stair := stair, fields := none }
  | [stair, low, high, weight, ch, cl, drain, ph, pl, use] =>
    (useOf use).map fun use =>
      { stair := stair, fields := some ⟨low, high, weight, word ch cl, drain, word ph pl, use⟩ }
  | _ => none

def parseBankLoad : List Nat → Option BankLoad
  | [bank] => some { bank := bank, fields := none }
  | [bank, p, q, low, high] => some { bank := bank, fields := some ⟨p, q, low, high⟩ }
  | _ => none

def parseCarLoad : List Nat → Option CarLoad
  | [car] => some { car := car, fields := none }
  | [car, bank, address] => some { car := car, fields := some ⟨bank, address⟩ }
  | _ => none

def parseSectionLoad : List Nat → Option SectionLoad
  | [sec] => some { sec := sec, capacity := none }
  | [sec, capacity] => some { sec := sec, capacity := some capacity }
  | _ => none

def parseDoorLoad : List Nat → Option DoorLoad
  | [floor, stair] => some { floor := floor, stair := stair, fields := none }
  | [floor, stair, sec, reentry] => some { floor := floor, stair := stair, fields := some ⟨sec, flagOf reentry⟩ }
  | _ => none

def parsePhraseLoad : List Nat → Option PhraseLoad
  | [hi, lo] => some { phrase := word hi lo, length := none }
  | [hi, lo, length] => some { phrase := word hi lo, length := some length }
  | _ => none

/-- Two-byte fields to the end of the body. -/
def parseWords : List Nat → Option (List Nat)
  | [] => some []
  | [_] => none
  | hi :: lo :: rest => (parseWords rest).map (word hi lo :: ·)

/-- The position of a template in R11. -/
def templateOf : Nat → Option Template
  | 0 => some .alert
  | 1 => some .evacuate
  | 2 => some .defend
  | 3 => some .allclear
  | 4 => some .drillPrefix
  | 5 => some .exitPhrase
  | _ => none

/-- A list carried as 0 to 15 for 1 to 16 entries, of two bytes each (Figure 10-6). -/
def parseShortList (count : Nat) (bytes : List Nat) : Option (List Nat) :=
  match parseWords bytes with
  | some l => if count < 16 ∧ l.length = count + 1 then some l else none
  | none => none

def parseTemplateLoad : List Nat → Option TemplateLoad
  | [t] => (templateOf t).map fun t => { template := t, list := none }
  | t :: count :: rest =>
    match templateOf t, parseShortList count rest with
    | some t, some l => some { template := t, list := some (l.map absent2) }
    | _, _ => none
  | _ => none

/-- The position of a port mode in R12. That another value is refused FORMAT is a DESIGN CHOICE
(notes/assumptions/39.md). -/
def modeOf : Nat → Option PortMode
  | 0 => some .contact
  | 1 => some .serial
  | _ => none

def parsePortLoad : List Nat → Option PortLoad
  | [port, mode, low, high, debounce, supervision] =>
    (modeOf mode).map fun mode =>
      { port := port, mode := mode, low := low, high := high, debounce := debounce, supervision := supervision }
  | _ => none

/-- The fields every defined kind of zone has, in the order of R36; a span is carried as one less. -/
def zoneFields (kind : ZoneKindLoad) (base span ppf lh ll lock : Nat) : ZoneBody :=
  if span < 8 then .defined ⟨kind, base, span + 1, ppf, word lh ll, lock⟩ else .malformed

/-- What follows the zone in a SET_ZONE, by the kind's position in R36. The points per floor, a quantity of 0 to 64, take one byte
here and in every reply that carries them (DESIGN CHOICE, notes/assumptions/10.md). -/
def parseZoneBody : List Nat → ZoneBody
  | [0] => .undefined
  | [1, base, span, ppf, lh, ll, lock] => zoneFields .floor base span ppf lh ll lock
  | [2, base, span, ppf, lh, ll, lock] => zoneFields .manual base span ppf lh ll lock
  | [3, base, span, ppf, lh, ll, stair, lock] => zoneFields (.stair stair) base span ppf lh ll lock
  | [4, base, span, ppf, lh, ll, bank, lock] => zoneFields (.shaft bank) base span ppf lh ll lock
  | _ => .malformed

def parseZoneLoad : List Nat → Option ZoneLoad
  | zone :: rest => some { zone := zone, body := parseZoneBody rest }
  | [] => none

def parseRangeLoad : List Nat → Option RangeLoad
  | [port, fh, fl, ch, cl, zone] => some { port := port, first := word fh fl, count := word ch cl, zone := zone }
  | _ => none

def parseStairUse : List Nat → Option StairUse
  | [stair, use] => (useOf use).map fun use => { stair := stair, inUse := use }
  | _ => none

def parseDrillStart : List Nat → Option DrillStart
  | [floor, lifts] => some { floor := floor, lifts := flagOf lifts }
  | _ => none

/-- The fields of an announcement after its floors: a phrase list, repeat, gap and expiry. -/
def parseAnnouncementTail (floors : List Nat) : List Nat → Option Announcement
  | count :: rest =>
    match parseShortList count (rest.take (2 * count + 2)), rest.drop (2 * count + 2) with
    | some phrases, [times, gap, eh, el] =>
      some { floors := floors, phrases := phrases, times := times, gap := gap, expiry := word eh el }
    | _, _ => none
  | _ => none

def parseAnnouncement : List Nat → Option Announcement
  | count :: rest =>
    if count ≤ rest.length then parseAnnouncementTail (rest.take count) (rest.drop count) else none
  | _ => none

/-- The request of a QUERY body, by the subject's position in R161. An unknown subject is a body of a wrong form. -/
def parseQuery (l : Link) (h : Header) : List Nat → Instr
  | 0 :: rest => .queryFloor l h (parseOne rest)
  | 1 :: rest => .queryStair l h (parseOne rest)
  | 2 :: rest => .queryCar l h (parseOne rest)
  | 3 :: rest => .queryBank l h (parseOne rest)
  | 4 :: rest => .queryDoor l h (parseDoorRef rest)
  | 5 :: rest => .querySection l h (parseOne rest)
  | 6 :: rest => .queryZone l h (parseOne rest)
  | 7 :: rest => .queryRange l h (parsePointRef rest)
  | 8 :: rest => .queryIncident l h (parseOne rest)
  | 9 :: rest => .queryInstance l h (parseOne rest)
  | 10 :: rest => .queryPort l h (parseOne rest)
  | 11 :: rest => .queryPoint l h (parsePointRef rest)
  | _ => .queryFloor l h none

/-- The request of a FLOOR_COMMAND body, by the target's position in R86. -/
def parseFloorCommand (l : Link) (h : Header) : List Nat → Instr
  | [floor, 0] => .floorCommandEvacuate l h (some floor)
  | [floor, 1] => .floorCommandDefend l h (some floor)
  | [floor, 2] => .floorCommandAlert l h (some floor)
  | _ => .floorCommandEvacuate l h none

/-- The request of a DOOR_COMMAND body, by the action's position in R137. -/
def parseDoorCommand (l : Link) (h : Header) : List Nat → Instr
  | [floor, stair, 0] => .doorCommandForce l h (some ⟨floor, stair⟩)
  | [floor, stair, 1] => .doorCommandHold l h (some ⟨floor, stair⟩)
  | [floor, stair, 2] => .doorCommandNormal l h (some ⟨floor, stair⟩)
  | [floor, stair, 3] => .doorCommandRetry l h (some ⟨floor, stair⟩)
  | _ => .doorCommandForce l h none

/-- The request of a CAR_COMMAND body, by the action's position in R121. -/
def parseCarCommand (l : Link) (h : Header) : List Nat → Instr
  | [car, 0] => .carCommandRecall l h (some car)
  | [car, 1] => .carCommandReturn l h (some car)
  | _ => .carCommandRecall l h none

/-- The request of a kind and a body. `w` is how the store ends the write the request may make. -/
def parseKind (l : Link) (h : Header) (w : StoreWrite) (kind : Nat) (body : List Nat) : Instr :=
  match kind with
  | 1 => .status l h (parseUnit body)
  | 2 => .fetchReports l h (parseUnit body)
  | 3 => parseQuery l h body
  | 4 => .scanFloors l h (parseScan body)
  | 5 => .setOccupancy l h (parseOccupancySet body)
  | 6 => .adjustOccupancy l h (parseOccupancyAdjust body)
  | 7 => .setBuilding l h w (parseBuilding body)
  | 8 => .setFloor l h w (parseFloorLoad body)
  | 9 => .setStair l h w (parseStairLoad body)
  | 10 => .setBank l h w (parseBankLoad body)
  | 11 => .setCar l h w (parseCarLoad body)
  | 12 => .setSection l h w (parseSectionLoad body)
  | 13 => .setDoor l h w (parseDoorLoad body)
  | 14 => .setPhrase l h w (parsePhraseLoad body)
  | 15 => .setTemplate l h w (parseTemplateLoad body)
  | 16 => .setPort l h w (parsePortLoad body)
  | 17 => .setZone l h w (parseZoneLoad body)
  | 18 => .setRange l h w (parseRangeLoad body)
  | 19 => .clearRange l h w (parsePointRef body)
  | 20 => .isolateZone l h w (parseOne body)
  | 21 => .restoreZone l h w (parseOne body)
  | 22 => .stairUse l h w (parseStairUse body)
  | 23 => .relatch l h (parseOne body)
  | 24 => .panelReset l h (parseOne body)
  | 25 => .startDrill l h (parseDrillStart body)
  | 26 => .endDrill l h (parseUnit body)
  | 27 => .general l h (parseUnit body)
  | 28 => .standDown l h (parseUnit body)
  | 29 => parseFloorCommand l h body
  | 30 => parseDoorCommand l h body
  | 31 => parseCarCommand l h body
  | 32 => .announce l h (parseAnnouncement body)
  | 33 => .cancelAnnounce l h (parseOne body)
  | _ => .invalidKind l h kind

/-- The level a claimed level value names (R158). -/
def levelOf : Nat → Option Level
  | 1 => some .one
  | 2 => some .two
  | 3 => some .three
  | _ => none

/-- The request that the bytes of a good frame spell, from the byte after the length to the end of the body
(Figure 10-3, R158). Fewer than three bytes make no frame; the length field rules them out (R156). -/
def parseRequest (l : Link) (w : StoreWrite) (bytes : List Byte) : Option Instr :=
  match bytes.map (·.toNat) with
  | stationLevel :: tag :: kind :: body =>
    match levelOf (stationLevel % 4) with
    | none => some (.badClaimedLevel l (stationLevel / 16) tag kind)
    | some level => some (parseKind l { station := stationLevel / 16, claimed := level, tag := tag } w kind body)
  | _ => none

end Sys2Proof.Machine
end

