-- ==== Sys2Proof/Machine/Store.lean ====
section
/-! DEFINITION. The nonvolatile store (R3, R13) and cold start (R14). -/

namespace Sys2Proof.Machine

/-! ## Writing through (R3) -/

/-- The keeping state of a group. -/
def Description.keeping (d : Description) : StoreGroup → Keeping
  | .building => d.keepBuilding
  | .input => d.keepInput
  | .map => d.keepMap

/-- The keeping state of a group written. -/
def Description.setKeeping (d : Description) (g : StoreGroup) (k : Keeping) : Description :=
  match g with
  | .building => { d with keepBuilding := k }
  | .input => { d with keepInput := k }
  | .map => { d with keepMap := k }

/-- A group of the store written as the group in use stands. -/
def Store.writeGroup (x : Store) (d : Description) : StoreGroup → Store
  | .building => { x with building := d.building }
  | .input => { x with input := d.input }
  | .map => { x with map := d.map }

/-- An accepted load written through to the store group of its record (R3). A write that fails leaves the store as
it was (DESIGN CHOICE, notes/assumptions/6.md). The second part says whether the reply carries NOT_KEPT. -/
def State.writeThrough (s : State) (g : StoreGroup) : StoreWrite → State × Bool
  | .written =>
    let d := s.desc.setKeeping g .kept
    let t := { s with desc := d, store := s.store.writeGroup d g }
    (if s.desc.storeFault && !d.storeFault then t.report .storeRestored else t, false)
  | .failed => (({ s with desc := s.desc.setKeeping g .unkept }).report (.groupNotKept g), true)

/-- An accepted load: its effects `s`, the write of its group, and the reply with its body (R2, R3). -/
def loaded (s : State) (g : StoreGroup) (w : StoreWrite) (clamped : Bool) (body : List (List Byte)) :
    State × Answer :=
  let r := s.writeThrough g w
  (r.1, ⟨.done clamped r.2, body⟩)

/-- The BUILDING group in use changed. -/
def State.changeBuilding (s : State) (f : BuildingGroup → BuildingGroup) : State :=
  { s with desc := { s.desc with building := f s.desc.building } }

/-- The INPUT group in use changed. -/
def State.changeInput (s : State) (f : InputGroup → InputGroup) : State :=
  { s with desc := { s.desc with input := f s.desc.input } }

/-- The MAP group in use changed by an accepted MAP request, which clears the fallback indication (R13). -/
def State.changeMap (s : State) (f : MapGroup → MapGroup) : State :=
  { s with desc := { s.desc with map := f s.desc.map, fallback := false } }

/-! ## Cold start (R14) -/

/-- A table with one record for every key of a rising list. -/
def Table.fill {α : Type} (keys : List Nat) (v : α) : Table α := ⟨keys.map fun k => (k, v)⟩

/-- A group as read: the store's where its check passes, else the defaults. -/
def readGroup {α : Type} (good : Bool) (stored blank : α) : α := if good then stored else blank

/-- The keeping state of a group as read. -/
def readKeeping (answers good : Bool) : Keeping := if !answers then .unkept else if good then .kept else .defaulted

/-- The description as the store's three groups leave it. A store that does not answer gives no good group. -/
def readDescription (x : Store) (answers building input map : Bool) : Description :=
  { building := readGroup (answers && building) x.building .blank
    input := readGroup (answers && input) x.input .blank
    map := readGroup (answers && map) x.map .blank
    keepBuilding := readKeeping answers building
    keepInput := readKeeping answers input
    keepMap := readKeeping answers map
    fallback := !(answers && map) }

/-- The reports of the reading (R14). -/
def readReports (answers building input map : Bool) : List Report :=
  if answers then
    (if building then [] else [.groupDefaulted .building]) ++ (if input then [] else [.groupDefaulted .input])
      ++ (if map then [] else [.groupDefaulted .map])
  else [.storeNotAnswering]

/-- The floor records at cold start: the live occupancy is the default occupancy (R6, R73). -/
def coldFloors (g : BuildingGroup) : Table Floor :=
  g.floors.rows.foldl (fun t r => t.write Floor.fresh r.1 { Floor.fresh with occupancy := r.2.occupancy }) .empty

/-- The floors that have a door, rising: those whose node is in use (R128). -/
def nodeFloors (g : BuildingGroup) : List Nat := (g.doors.keys.map doorFloor).eraseDups

/-- The live records of the doors, nodes and sections present at cold start, every door sent LOCK (R126 to R128). The LOCKs go out
in ascending door number (DESIGN CHOICE, notes/assumptions/47.md). -/
def coldDoors (s : State) (a : Act DoorUnit) : Act DoorUnit :=
  let g := s.desc.building
  let b := a.set { a.unit with
    doors := .fill g.doors.keys DoorLive.fresh
    sections := .fill g.sections.keys s.freshSection
    nodes := .fill (nodeFloors g) { silence := some (s.dueIn 5), silent := false } }
  g.doors.keys.foldl (fun c n => sendLock s n c) b

/-- The machine with every live record at its cold-start value over a description, before any order is sent. -/
def coldState (s : State) (d : Description) : State :=
  let t : State :=
    { State.reset with
      choices := s.choices, pending := s.pending, store := s.store, desc := d, links := ⟨.fresh, .fresh⟩ }
  { t with
    evac := { floors := coldFloors d.building, queue := [] }
    stairs := { live := .empty, drainTimer := d.building.building.map fun b => t.dueIn b.drainInterval }
    lifts := { banks := .empty, cars := .fill d.building.cars.keys t.freshCar, pollTimer := 5 } }

/-- Cold start (R14): the groups read, every live record at its cold-start value, every door sent LOCK, and every
serial port polled. -/
def State.coldStart (s : State) (answers building input map : Bool) : State :=
  let t := coldState s (readDescription s.store answers building input map)
  let u := t.reportAll (readReports answers building input map)
  allPorts.foldl (fun v p => if v.serial p then v.startSerial p else v) (u.onDoors (coldDoors u))

end Sys2Proof.Machine
end

