-- ==== Sys2Proof/Machine/LinkCmds.lean ====
section
/-! DEFINITION. Cold start as a command, and the commands of the Link Unit (R14, R156 to R159, R162, R165): report
fetches, occupancy, requests the link itself turns away, and what its receiver takes. -/

namespace Sys2Proof.Machine

/-! ## Cold start (R14) -/

/-- COLD_START (R14): power-up or assertion of the reset line. -/
def execColdStart (answers building input map : Bool) (s : State) : Host.Outcome State Fault Refusal :=
  .next (s.coldStart answers building input map)

/-! ## FETCH_REPORTS (R165) -/

/-- Reports fetched from a link's queue, with what the reply carries. -/
def State.fetch (s : State) (l : Link) : State × Answer :=
  let x := s.link l
  let taken := x.reports.take Config.fetchLimit
  accept (s.setLink l { x with reports := x.reports.drop Config.fetchLimit, overflow := false })
    (bflag x.overflow :: b1 taken.length :: taken.map (·.bytes))

/-- FETCH_REPORTS (R165). -/
def execFetchReports (l : Link) (h : Header) (b : Option Unit) (s : State) : Host.Outcome State Fault Refusal :=
  .next (takeRequest l h 2 (.fetchReports l h b) s fun _ =>
    match b with
    | none => refuse s .format
    | some _ => s.fetch l)

/-! ## Occupancy (R162) -/

/-- The answer to an accepted occupancy request: the floor and its live occupancy (R162). -/
def State.occupancyAnswer (s : State) (f n : Nat) (clamped : Bool) : State × Answer :=
  (s.setOccupancy f n, ⟨.done clamped false, [b1 f, b2 n]⟩)

/-- SET_OCCUPANCY (R162). -/
def execSetOccupancy (l : Link) (h : Header) (b : Option OccupancySet) (s : State) :
    Host.Outcome State Fault Refusal :=
  .next (takeRequest l h 5 (.setOccupancy l h b) s fun _ =>
    if s.unconfigured then refuse s .state
    else
      match b with
      | none => refuse s .format
      | some x =>
        if x.floor < s.fc then s.occupancyAnswer x.floor (clamp 0 999 x.value) (moved 0 999 x.value)
        else refuse s .unknown)

/-- A signed delta brought into -999 to 999 (R162). -/
def clampDelta (d : Int) : Int := max (-999) (min 999 d)

/-- A live occupancy with a delta added, and whether either clamp acted (R162). -/
def adjustedOccupancy (n : Nat) (d : Int) : Nat × Bool :=
  let sum := (n : Int) + clampDelta d
  (min 999 sum.toNat, clampDelta d ≠ d || sum < 0 || 999 < sum)

/-- ADJUST_OCCUPANCY (R162). -/
def execAdjustOccupancy (l : Link) (h : Header) (b : Option OccupancyAdjust) (s : State) :
    Host.Outcome State Fault Refusal :=
  .next (takeRequest l h 6 (.adjustOccupancy l h b) s fun _ =>
    if s.unconfigured then refuse s .state
    else
      match b with
      | none => refuse s .format
      | some x =>
        if x.floor < s.fc then
          let r := adjustedOccupancy (s.floor x.floor).occupancy x.delta
          s.occupancyAnswer x.floor r.1 r.2
        else refuse s .unknown)

/-! ## Requests the Link Unit answers itself (R158, R159) -/

/-- A kind that names no request: INVALID, at the link's ceiling (R158, R159). -/
def execInvalidKind (l : Link) (h : Header) (kind : Nat) (s : State) : Host.Outcome State Fault Refusal :=
  .next (takeFrame l (.invalidKind l h kind) s (s.reply l h.station (ceiling l) h.tag kind ⟨.invalid, []⟩))

/-- A claimed level other than 1, 2 or 3: refused FORMAT, at the link's ceiling (R158, R159). The reply has an empty body for every
kind, SET_ZONE among them: the frame is refused before its kind is looked at, so R38's descriptor is not given (DESIGN
CHOICE, notes/assumptions/10.md). -/
def execBadClaimedLevel (l : Link) (station tag kind : Nat) (s : State) : Host.Outcome State Fault Refusal :=
  .next (takeFrame l (.badClaimedLevel l station tag kind) s
    (s.reply l station (ceiling l) tag kind ⟨.refused .format, []⟩))

/-! ## The receiver (R156, R157) -/

/-- The partial frame of a link discarded: the receiver is HUNTING. -/
def LinkLive.hunt (x : LinkLive) : LinkLive := { x with receiver := .hunting, gathered := [], silence := none }

/-- A link changed. -/
def State.changeLink (s : State) (l : Link) (f : LinkLive → LinkLive) : State := s.setLink l (f (s.link l))

/-- A complete frame whose CRC disagrees is discarded (R156, notes/assumptions/8.md). -/
def execFrameCrcDiscard (l : Link) (s : State) : Host.Outcome State Fault Refusal :=
  .next (s.changeLink l LinkLive.hunt)

/-- A good frame completed while a frame is held is discarded (R157, notes/assumptions/8.md). -/
def execFrameHeldDiscard (l : Link) (s : State) : Host.Outcome State Fault Refusal :=
  .next (s.changeLink l fun x => if x.held.isSome then x.hunt else x)

/-- The held frame becomes the request in hand, when none is in hand. -/
def LinkLive.takeHeld (x : LinkLive) : LinkLive :=
  if x.inHand.isNone then { x with inHand := x.held, held := none } else x

/-- The held frame is taken (R157). -/
def execHeldFrameTaken (l : Link) (s : State) : Host.Outcome State Fault Refusal :=
  .next (s.changeLink l LinkLive.takeHeld)

/-- A break condition discards the partial frame; while HUNTING it changes nothing (R156). -/
def execLineBreak (l : Link) (s : State) : Host.Outcome State Fault Refusal :=
  .next (s.changeLink l fun x => if x.receiver = .gathering then x.hunt else x)

/-- A silence of 2 s discards the partial frame; while HUNTING it changes nothing (R156). -/
def execReceiverSilenceExpiry (l : Link) (s : State) : Host.Outcome State Fault Refusal :=
  .next (s.changeLink l fun x => if x.receiver = .gathering ∧ x.silence.isSome then x.hunt else x)

/-- A good frame taken from the line: with a frame held it is discarded; else it becomes the request in hand, or with one in
hand the held frame (R157). -/
def LinkLive.takeGood (x : LinkLive) (c : Instr) : LinkLive :=
  if x.held.isSome then x
  else if x.inHand.isNone then { x with inHand := some c }
  else { x with held := some c }

/-- A complete frame: `bytes` are its bytes after the start byte, `n` its length field (R156, R157). -/
def LinkLive.complete (x : LinkLive) (l : Link) (w : StoreWrite) (n : Nat) (bytes : List Byte) : LinkLive :=
  if b2 (crc (bytes.take (n + 1))).toNat = bytes.drop (n + 1) then
    match parseRequest l w ((bytes.take (n + 1)).drop 1) with
    | some c => x.hunt.takeGood c
    | none => x.hunt
  else x.hunt

/-- A byte gathered (R156): `due` is when 2 s of silence from now are over. -/
def LinkLive.gather (x : LinkLive) (l : Link) (w : StoreWrite) (due : Nat) (b : Byte) : LinkLive :=
  let bytes := x.gathered ++ [b]
  let n := (bytes.headD 0).toNat
  if n < 3 ∨ 243 < n then x.hunt
  else if bytes.length = n + 3 then x.complete l w n bytes
  else { x with gathered := bytes, silence := some due }

/-- A byte taken by a receiver (R156). -/
def LinkLive.takeByte (x : LinkLive) (l : Link) (w : StoreWrite) (due : Nat) (b : Byte) : LinkLive :=
  match x.receiver with
  | .hunting => if b = startByte then { x with receiver := .gathering, gathered := [], silence := some due } else x
  | .gathering => x.gather l w due b

/-- BYTE_TAKEN (R156, R157): `w` is how the store ends the write that the request this byte completes may make. -/
def execByteTaken (l : Link) (byte : Byte) (w : StoreWrite) (s : State) : Host.Outcome State Fault Refusal :=
  .next (s.changeLink l fun x => x.takeByte l w (s.dueIn 2) byte)

end Sys2Proof.Machine
end

