-- ==== Sys2Proof/Machine/LoadCmds.lean ====
section
/-! DEFINITION. The description requests of the BUILDING and INPUT groups (Section 1, R33, R102, R107, R124). Their
checks stand in the order of R2: condition, form, identifiers, consistency, quantities. -/

namespace Sys2Proof.Machine

/-- The conditions of a BUILDING request other than SET_BUILDING, and then its form (R1, R2, R15). -/
def buildingLoad {α : Type} (s : State) (level : Nat) (b : Option α) (f : α → State × Answer) : State × Answer :=
  if 2 < level then refuse s .level
  else if s.regime.regime ≠ .normal ∨ s.unconfigured then refuse s .state
  else
    match b with
    | none => refuse s .format
    | some x => f x

/-! ## SET_BUILDING (R4, R5, R16) -/

/-- Whether anything present in the description names a floor at or above `n` (R5). -/
def Description.namesFloor (d : Description) (n : Nat) : Bool :=
  d.building.floors.keys.any (n ≤ ·)
    || d.building.stairs.rows.any (fun r => n ≤ r.2.low || n ≤ r.2.high)
    || d.building.banks.rows.any (fun r => n ≤ r.2.p || n ≤ r.2.q || n ≤ r.2.low || n ≤ r.2.high)
    || d.building.doors.keys.any (fun k => n ≤ doorFloor k)
    || d.input.ports.rows.any fun r => match r.2.range with | some x => n ≤ x.1 || n ≤ x.2 | none => false

/-- Whether a tenant list entry names a floor at or above `n` (R5). -/
def AudioUnit.tenantNames (u : AudioUnit) (n : Nat) : Bool := u.tenants.any fun e => e.floors.any (n ≤ ·)

/-- The building record a load gives, every figure in its range or at its default (R4). -/
def buildingRecord (x : BuildingLoad) : Building :=
  { fc := clamp 2 48 x.fc
    street := x.street
    coreAbove := clampOr 0 3 1 x.coreAbove
    coreBelow := clampOr 0 2 1 x.coreBelow
    threshold := clampOr 2 16 3 x.threshold
    holdMax := clampOr 30 1800 300 x.holdMax
    drainInterval := clampOr 5 60 10 x.drainInterval
    relockHold := clampOr 10 600 120 x.relockHold
    verifyTime := clampOr 1 10 3 x.verifyTime
    recallMargin := clampOr 2 8 3 x.recallMargin
    travelTime := clampOr 2 30 8 x.travelTime
    parkConfirm := clampOr 5 60 15 x.parkConfirm }

/-- Whether a load's figures had to be moved (R2, R4). -/
def buildingClamped (x : BuildingLoad) : Bool :=
  moved 2 48 x.fc || movedOr 0 3 x.coreAbove || movedOr 0 2 x.coreBelow || movedOr 2 16 x.threshold
    || movedOr 30 1800 x.holdMax || movedOr 5 60 x.drainInterval || movedOr 10 600 x.relockHold
    || movedOr 1 10 x.verifyTime || movedOr 2 8 x.recallMargin || movedOr 2 30 x.travelTime
    || movedOr 5 60 x.parkConfirm

/-- Whether a new FC is refused STATE (R5). -/
def State.fcRefused (s : State) (fc : Nat) : Bool :=
  if s.unconfigured then s.desc.namesFloor fc
  else fc < s.fc && (s.desc.namesFloor fc || s.audio.tenantNames fc)

/-- The end of the UNCONFIGURED condition, after the store write: every point in ALARM is passed to the Map Unit as a
new alarm (R16). -/
def State.passAlarms (s : State) : State := s.panel.alarms.foldl (fun t x => t.handAlarm x.1 x.2) s

/-- An accepted SET_BUILDING (R4, R16, R99). -/
def State.loadBuilding (s : State) (w : StoreWrite) (x : BuildingLoad) : State × Answer :=
  let t := s.changeBuilding fun g => { g with building := some (buildingRecord x) }
  if s.unconfigured then
    let u := { t with stairs := { t.stairs with drainTimer := some (t.dueIn (buildingRecord x).drainInterval) } }
    let r := u.writeThrough .building w
    (r.1.passAlarms, ⟨.done (buildingClamped x) r.2, []⟩)
  else loaded t .building w (buildingClamped x) []

/-- SET_BUILDING carried out (R1, R2, R4, R5). -/
def State.setBuilding (s : State) (w : StoreWrite) (b : Option BuildingLoad) (level : Nat) : State × Answer :=
  if 2 < level then refuse s .level
  else if s.regime.regime ≠ .normal then refuse s .state
  else
    match b with
    | none => refuse s .format
    | some x =>
      if (buildingRecord x).fc ≤ x.street then refuse s .unknown
      else if s.fcRefused (buildingRecord x).fc then refuse s .state
      else s.loadBuilding w x

/-- SET_BUILDING (R4). -/
def execSetBuilding (l : Link) (h : Header) (w : StoreWrite) (b : Option BuildingLoad) (s : State) :
    Host.Outcome State Fault Refusal :=
  .next (takeRequest l h 7 (.setBuilding l h w b) s (s.setBuilding w b))

/-! ## SET_FLOOR (R6) -/

/-- SET_FLOOR carried out (R6). -/
def State.loadFloor (s : State) (w : StoreWrite) (x : FloorLoad) : State × Answer :=
  if s.fc ≤ x.floor then refuse s .unknown
  else
    match x.fields with
    | none =>
      loaded (s.changeBuilding fun g => { g with floors := g.floors.drop x.floor }) .building w false []
    | some f =>
      let occupancy := clamp 0 999 f.occupancy
      let t := s.changeBuilding fun g => { g with floors := g.floors.put x.floor ⟨f.direct, occupancy⟩ }
      let u := if s.desc.building.floors.has x.floor then t else t.setOccupancy x.floor occupancy
      loaded u .building w (moved 0 999 f.occupancy) []

/-- SET_FLOOR (R6). -/
def execSetFloor (l : Link) (h : Header) (w : StoreWrite) (b : Option FloorLoad) (s : State) :
    Host.Outcome State Fault Refusal :=
  .next (takeRequest l h 8 (.setFloor l h w b) s fun level => buildingLoad s level b (s.loadFloor w))

/-! ## SET_STAIR (R7, R107) -/

/-- Whether a door into a stair is present, at a floor that a test holds of. -/
def State.doorInto (s : State) (st : Stair) (p : Nat → Bool) : Bool :=
  (s.doorsOfStair st).any fun n => p (doorFloor n)

/-- The availability notice of a stair whose record has changed, where its availability changed (R107). -/
def State.afterStairChange (s : State) (st : Stair) (was : Bool) : State :=
  if was && !s.available st then s.stairUnavailable st .outOfUse
  else if !was && s.available st then s.stairAvailable st
  else s

/-- The live record of a stair whose record comes or goes: load 0, saturated clear (R107). The compromised flag of the
letter stays (R94). -/
def State.freshStair (s : State) (st : Stair) : State :=
  let live := { StairLive.fresh with compromised := (s.stairs.stair st).compromised }
  { s with stairs := s.stairs.setStair st live }

/-- SET_STAIR in its removal form (R7, R107). -/
def State.removeStair (s : State) (w : StoreWrite) (st : Stair) : State × Answer :=
  if s.doorInto st (fun _ => true) || 0 < (s.stairs.stair st).load then refuse s .state
  else
    let t := (s.changeBuilding fun g => { g with stairs := g.stairs.drop (stairNumber st) }).freshStair st
    loaded (t.afterStairChange st (s.available st)) .building w false []

/-- The record a SET_STAIR loads (R7). -/
def stairFieldsRecord (f : StairFields) : StairRec :=
  { low := f.low, high := f.high, weight := clamp 1 4 f.weight, capacity := clamp 10 4000 f.capacity
    drain := clamp 1 255 f.drain, phrase := f.phrase, inUse := f.inUse }

/-- Whether a SET_STAIR moves a quantity (R7). -/
def stairFieldsClamped (f : StairFields) : Bool :=
  moved 1 4 f.weight || moved 10 4000 f.capacity || moved 1 255 f.drain

/-- An accepted SET_STAIR (R7, R107). -/
def State.putStair (s : State) (w : StoreWrite) (st : Stair) (f : StairFields) : State × Answer :=
  let t := s.changeBuilding fun g => { g with stairs := g.stairs.put (stairNumber st) (stairFieldsRecord f) }
  let u := if (s.stairRec st).isSome then t else t.freshStair st
  loaded (u.afterStairChange st (s.available st)) .building w (stairFieldsClamped f) []

/-- SET_STAIR carried out (R7). -/
def State.loadStair (s : State) (w : StoreWrite) (x : StairLoad) : State × Answer :=
  match x.fields with
  | none =>
    match stairOf x.stair with
    | none => refuse s .unknown
    | some st => s.removeStair w st
  | some f =>
    if f.high < f.low then refuse s .format
    else
      match stairOf x.stair with
      | none => refuse s .unknown
      | some st =>
        if s.fc ≤ f.high || !s.desc.building.phrases.has f.phrase then refuse s .unknown
        else if s.doorInto st (fun n => n < f.low || f.high < n) then refuse s .state
        else s.putStair w st f

/-- SET_STAIR (R7). -/
def execSetStair (l : Link) (h : Header) (w : StoreWrite) (b : Option StairLoad) (s : State) :
    Host.Outcome State Fault Refusal :=
  .next (takeRequest l h 9 (.setStair l h w b) s fun level => buildingLoad s level b (s.loadStair w))

/-! ## SET_BANK (R8) -/

/-- The live bank record of a bank whose record comes or goes: the shaft flag stays (R109). -/
def State.freshBank (s : State) (k : Bank) : State :=
  { s with lifts := s.lifts.setBank k { BankLive.fresh with shaft := (s.lifts.bank k).shaft } }

/-- SET_BANK carried out (R8). -/
def State.loadBank (s : State) (w : StoreWrite) (x : BankLoad) : State × Answer :=
  match x.fields with
  | none =>
    match bankOf x.bank with
    | none => refuse s .unknown
    | some k =>
      if !(s.bankCars k).isEmpty then refuse s .state
      else
        let t := s.changeBuilding fun g => { g with banks := g.banks.drop (bankNumber k) }
        loaded (t.freshBank k) .building w false []
  | some f =>
    if f.high < f.low then refuse s .format
    else
      match bankOf x.bank with
      | none => refuse s .unknown
      | some k =>
        if s.fc ≤ f.high || f.p < f.low || f.high < f.p || f.q < f.low || f.high < f.q then refuse s .unknown
        else
          let t := s.changeBuilding fun g => { g with banks := g.banks.put (bankNumber k) ⟨f.p, f.q, f.low, f.high⟩ }
          loaded (if (s.bankRec k).isSome then t else t.freshBank k) .building w false []

/-- SET_BANK (R8). -/
def execSetBank (l : Link) (h : Header) (w : StoreWrite) (b : Option BankLoad) (s : State) :
    Host.Outcome State Fault Refusal :=
  .next (takeRequest l h 10 (.setBank l h w b) s fun level => buildingLoad s level b (s.loadBank w))

/-! ## SET_CAR (R8, R124) -/

/-- Whether a car is in FIREFIGHTER or SHUTDOWN, in which SET_CAR is refused (R8). -/
def State.carHeld (s : State) (n : Nat) : Bool :=
  match s.lifts.cars.get n with
  | some c => c.state == .firefighter || c.state == .shutdown
  | none => false

/-- Whether another car of a bank holds a lift link address (R8). -/
def State.addressHeld (s : State) (n : Nat) (rec : CarRec) : Bool :=
  s.desc.building.cars.rows.any fun r => r.1 != n && r.2 == rec

/-- SET_CAR in its removal form (R8). -/
def State.removeCar (s : State) (w : StoreWrite) (n : Nat) : State × Answer :=
  if s.carHeld n then refuse s .state
  else
    let t := s.changeBuilding fun g => { g with cars := g.cars.drop n }
    loaded { t with lifts := { t.lifts with cars := t.lifts.cars.drop n } } .building w false []

/-- A car record put (R8, R124). -/
def State.putCar (s : State) (w : StoreWrite) (n : Nat) (rec : CarRec) : State × Answer :=
  if s.addressHeld n rec then refuse s .overlap
  else if s.carHeld n then refuse s .state
  else
    let t := s.changeBuilding fun g => { g with cars := g.cars.put n rec }
    let u := if s.desc.building.cars.get n = some rec then t else { t with lifts := t.lifts.setCar n t.freshCar }
    loaded u .building w false []

/-- SET_CAR carried out (R8, R124). -/
def State.loadCar (s : State) (w : StoreWrite) (x : CarLoad) : State × Answer :=
  if !isCar x.car then refuse s .unknown
  else
    match x.fields with
    | none => s.removeCar w x.car
    | some f =>
      match bankOf f.bank with
      | none => refuse s .unknown
      | some k =>
        if (s.bankRec k).isNone || 3 < f.address then refuse s .unknown else s.putCar w x.car ⟨k, f.address⟩

/-- SET_CAR (R8, R124). -/
def execSetCar (l : Link) (h : Header) (w : StoreWrite) (b : Option CarLoad) (s : State) :
    Host.Outcome State Fault Refusal :=
  .next (takeRequest l h 11 (.setCar l h w b) s fun level => buildingLoad s level b (s.loadCar w))

/-! ## SET_SECTION (R9) -/

/-- SET_SECTION in its removal form (R9). -/
def State.removeSection (s : State) (w : StoreWrite) (sec : Nat) : State × Answer :=
  if s.desc.building.doors.rows.any fun r => r.2.sec == sec then refuse s .state
  else
    let t := s.changeBuilding fun g => { g with sections := g.sections.drop sec }
    loaded { t with doors := { t.doors with sections := t.doors.sections.drop sec } } .building w false []

/-- A section record put: a raised capacity is followed by a run of the arbiter (R9). -/
def State.putSection (s : State) (w : StoreWrite) (sec capacity : Nat) (clamped : Bool) : State × Answer :=
  let old := s.desc.building.sections.get sec
  let t := s.changeBuilding fun g => { g with sections := g.sections.put sec capacity }
  let u :=
    match old with
    | none => { t with doors := t.doors.setSection sec t.freshSection }
    | some c => if c < capacity then t.onDoors (arbiter t sec) else t
  loaded u .building w clamped []

/-- SET_SECTION carried out (R9). DEDUCED: the STATE check against the grant set is made on the capacity as brought into 1 to 32,
so a carried 0 with one door granted is accepted as 1 with CLAMPED (notes/assumptions/9.md). -/
def State.loadSection (s : State) (w : StoreWrite) (x : SectionLoad) : State × Answer :=
  if !isSection x.sec then refuse s .unknown
  else
    match x.capacity with
    | none => s.removeSection w x.sec
    | some c =>
      let granted := match s.doors.sections.get x.sec with | some y => y.grants.length | none => 0
      if clamp 1 32 c < granted then refuse s .state
      else s.putSection w x.sec (clamp 1 32 c) (moved 1 32 c)

/-- SET_SECTION (R9). -/
def execSetSection (l : Link) (h : Header) (w : StoreWrite) (b : Option SectionLoad) (s : State) :
    Host.Outcome State Fault Refusal :=
  .next (takeRequest l h 12 (.setSection l h w b) s fun level => buildingLoad s level b (s.loadSection w))

/-! ## SET_DOOR (R9) -/

/-- Whether a door is present in a state other than LOCKED (R9). -/
def State.doorBusy (s : State) (n : Nat) : Bool :=
  match s.doors.doors.get n with
  | some d => d.state != .locked
  | none => false

/-- A door's live record made, and LOCK sent to it (R9, R126). Its node comes into use with it (R128). -/
def makeDoor (s : State) (n : Nat) (a : Act DoorUnit) : Act DoorUnit :=
  let f := doorFloor n
  let u := a.unit.setDoor n DoorLive.fresh
  let v := if u.nodes.has f then u else { u with nodes := u.nodes.put f { silence := some (s.dueIn 5), silent := false } }
  sendLock s n (a.set v)

/-- A door's live record discarded, and its node with the last door of its floor: the silence timer stops and the silent state
is forgotten, so a door loaded there later finds the node as new (DESIGN CHOICE, notes/assumptions/48.md). -/
def dropDoorRecord (s : State) (n : Nat) (u : DoorUnit) : DoorUnit :=
  let v := { u with doors := u.doors.drop n }
  if (s.doorsOfFloor (doorFloor n)).isEmpty then { v with nodes := v.nodes.drop (doorFloor n) } else v

/-- SET_DOOR in its removal form (R9). -/
def State.removeDoor (s : State) (w : StoreWrite) (n : Nat) : State × Answer :=
  if s.doorBusy n then refuse s .state
  else
    let t := s.changeBuilding fun g => { g with doors := g.doors.drop n }
    loaded { t with doors := dropDoorRecord t n t.doors } .building w false []

/-- A door record put (R9). -/
def State.putDoor (s : State) (w : StoreWrite) (n : Nat) (rec : DoorRec) : State × Answer :=
  if s.doorBusy n then refuse s .state
  else
    let t := s.changeBuilding fun g => { g with doors := g.doors.put n rec }
    loaded (if s.doors.doors.has n then t else t.onDoors (makeDoor t n)) .building w false []

/-- SET_DOOR carried out (R9). -/
def State.loadDoor (s : State) (w : StoreWrite) (x : DoorLoad) : State × Answer :=
  match stairOf x.stair with
  | none => refuse s .unknown
  | some st =>
    if s.fc ≤ x.floor || !s.serves st x.floor then refuse s .unknown
    else
      match x.fields with
      | none => s.removeDoor w (doorNumber x.floor st)
      | some f =>
        if !s.desc.building.sections.has f.sec then refuse s .unknown
        else s.putDoor w (doorNumber x.floor st) ⟨f.sec, f.reentry⟩

/-- SET_DOOR (R9). -/
def execSetDoor (l : Link) (h : Header) (w : StoreWrite) (b : Option DoorLoad) (s : State) :
    Host.Outcome State Fault Refusal :=
  .next (takeRequest l h 13 (.setDoor l h w b) s fun level => buildingLoad s level b (s.loadDoor w))

/-! ## SET_PHRASE (R10) -/

/-- Whether a template, a stair's route phrase or a tenant list entry names a phrase (R10). -/
def State.phraseNamed (s : State) (n : Nat) : Bool :=
  s.desc.building.templates.rows.any (fun r => r.2.contains (some n))
    || s.desc.building.stairs.rows.any (fun r => r.2.phrase == n)
    || s.audio.tenants.any fun e => e.phrases.contains n

/-- SET_PHRASE carried out (R10). -/
def State.loadPhrase (s : State) (w : StoreWrite) (x : PhraseLoad) : State × Answer :=
  if 511 < x.phrase then refuse s .unknown
  else
    match x.length with
    | none =>
      if s.phraseNamed x.phrase then refuse s .state
      else loaded (s.changeBuilding fun g => { g with phrases := g.phrases.drop x.phrase }) .building w false []
    | some n =>
      loaded (s.changeBuilding fun g => { g with phrases := g.phrases.put x.phrase (clamp 1 200 n) }) .building w
        (moved 1 200 n) []

/-- SET_PHRASE (R10). -/
def execSetPhrase (l : Link) (h : Header) (w : StoreWrite) (b : Option PhraseLoad) (s : State) :
    Host.Outcome State Fault Refusal :=
  .next (takeRequest l h 14 (.setPhrase l h w b) s fun level => buildingLoad s level b (s.loadPhrase w))

/-! ## SET_TEMPLATE (R11) -/

/-- Whether a list has the form of its template: its length, and the route marker once in EVACUATE and nowhere else
(R11). -/
def templateForm (t : Template) (l : List (Option Nat)) : Bool :=
  let markers := (l.filter fun p => p.isNone).length
  match t with
  | .evacuate => 1 ≤ l.length && l.length ≤ Config.phraseLimit && markers == 1
  | .alert | .defend | .allclear => 1 ≤ l.length && l.length ≤ Config.phraseLimit && markers == 0
  | .drillPrefix | .exitPhrase => l.length == 1 && markers == 0

/-- SET_TEMPLATE carried out (R11). -/
def State.loadTemplate (s : State) (w : StoreWrite) (x : TemplateLoad) : State × Answer :=
  match x.list with
  | none =>
    loaded (s.changeBuilding fun g => { g with templates := g.templates.drop (templateNumber x.template) })
      .building w false []
  | some list =>
    if !templateForm x.template list then refuse s .format
    else if !list.all fun p => match p with | some n => s.desc.building.phrases.has n | none => true then
      refuse s .unknown
    else
      loaded (s.changeBuilding fun g => { g with templates := g.templates.put (templateNumber x.template) list })
        .building w false []

/-- SET_TEMPLATE (R11). -/
def execSetTemplate (l : Link) (h : Header) (w : StoreWrite) (b : Option TemplateLoad) (s : State) :
    Host.Outcome State Fault Refusal :=
  .next (takeRequest l h 15 (.setTemplate l h w b) s fun level => buildingLoad s level b (s.loadTemplate w))

/-! ## SET_PORT (R12, R33) -/

/-- The record a SET_PORT loads (R12). -/
def portLoadRecord (x : PortLoad) : PortRec :=
  { mode := x.mode, range := some (x.low, x.high), debounce := clamp 5 50 x.debounce
    supervision := clamp 2 30 x.supervision }

/-- An accepted SET_PORT (R12, R33): the record, the live port, then the store write. -/
def State.putPort (s : State) (w : StoreWrite) (p : Port) (x : PortLoad) : State × Answer :=
  let t := s.changeInput fun g => { g with ports := g.ports.write PortRec.default (portNumber p) (portLoadRecord x) }
  let u := if (s.portRec p).mode = x.mode then t else t.changeMode p
  loaded u .input w (moved 5 50 x.debounce || moved 2 30 x.supervision) []

/-- SET_PORT carried out (R1, R2, R12). It is taken while UNCONFIGURED (R15). -/
def State.loadPort (s : State) (w : StoreWrite) (b : Option PortLoad) (level : Nat) : State × Answer :=
  if 2 < level then refuse s .level
  else if s.regime.regime ≠ .normal then refuse s .state
  else
    match b with
    | none => refuse s .format
    | some x =>
      if x.high < x.low then refuse s .format
      else
        match portOf x.port with
        | none => refuse s .unknown
        | some p => if s.loadFloors ≤ x.high then refuse s .unknown else s.putPort w p x

/-- SET_PORT (R12, R33). -/
def execSetPort (l : Link) (h : Header) (w : StoreWrite) (b : Option PortLoad) (s : State) :
    Host.Outcome State Fault Refusal :=
  .next (takeRequest l h 16 (.setPort l h w b) s (s.loadPort w b))

/-! ## STAIR_USE (R102) -/

/-- An accepted STAIR_USE: the flag, its reports and notices (the table of R102), the store write, and the stair's
availability in the reply, as a flag, 1 for available (DESIGN CHOICE, notes/assumptions/10.md). That the store write and its
report stand after the effects of the table is a DESIGN CHOICE too (notes/assumptions/50.md). -/
def State.useStair (s : State) (w : StoreWrite) (st : Stair) (r : StairRec) (inUse : Bool) : State × Answer :=
  let was := s.available st
  let t := s.changeBuilding fun g => { g with stairs := g.stairs.put (stairNumber st) { r with inUse := inUse } }
  let u :=
    if r.inUse = inUse then t
    else if inUse then
      (t.stairReport st fun load clear => .stairInUse st load clear).afterStairChange st was
    else (t.stairReport st fun load clear => .stairOutOfUse st load clear).afterStairChange st was
  loaded u .building w false [bflag (u.available st)]

/-- STAIR_USE carried out (R1, R2, R102). -/
def State.stairUse (s : State) (w : StoreWrite) (b : Option StairUse) (level : Nat) : State × Answer :=
  if 2 < level then refuse s .level
  else if s.unconfigured then refuse s .state
  else
    match b with
    | none => refuse s .format
    | some x =>
      match stairOf x.stair with
      | none => refuse s .unknown
      | some st =>
        match s.stairRec st with
        | none => refuse s .unknown
        | some r => s.useStair w st r x.inUse

/-- STAIR_USE (R102). -/
def execStairUse (l : Link) (h : Header) (w : StoreWrite) (b : Option StairUse) (s : State) :
    Host.Outcome State Fault Refusal :=
  .next (takeRequest l h 22 (.stairUse l h w b) s (s.stairUse w b))

end Sys2Proof.Machine
end

