-- ==== Sys2Proof/Machine/MapCmds.lean ====
section
/-! DEFINITION. The description requests of the MAP group (R37 to R41, R47, R48). -/

namespace Sys2Proof.Machine

/-- The level a MAP request needs: 2 in NORMAL, 1 in any other regime (R1). -/
def State.mapLevel (s : State) : Nat := if s.regime.regime = .normal then 2 else 1

/-- The conditions of a MAP request, and then its form (R1, R2). MAP requests are taken while UNCONFIGURED (R15). -/
def mapLoad {α : Type} (s : State) (level : Nat) (b : Option α) (f : α → State × Answer) : State × Answer :=
  if s.mapLevel < level then refuse s .level
  else
    match b with
    | none => refuse s .format
    | some x => f x

/-- The MAP group in use with a zone descriptor written. -/
def State.putZone (s : State) (z : Nat) (v : Zone) : State :=
  s.changeMap fun g => { g with zones := g.zones.write Zone.undefined z v }

/-! ## SET_ZONE (R37, R38) -/

/-- The kind a load names, if its stair or bank has a record (R37). -/
def State.zoneKind (s : State) : ZoneKindLoad → Option IncidentKind
  | .floor => some .floor
  | .manual => some .manual
  | .stair n =>
    match stairOf n with
    | some x => if (s.stairRec x).isSome then some (.stair x) else none
    | none => none
  | .shaft n =>
    match bankOf n with
    | some x => if (s.bankRec x).isSome then some (.shaft x) else none
    | none => none

/-- The area and lock level a load gives a zone, or why it is refused (R37). -/
def State.zoneArea (s : State) (x : ZoneLoad) : Except Reason (Option Area × Nat) :=
  match x.body with
  | .malformed => .error .format
  | .undefined => if isZone x.zone then .ok (none, 3) else .error .unknown
  | .defined f =>
    if f.lock < 1 ∨ 3 < f.lock then .error .format
    else if !isZone x.zone || 47 < f.base then .error .unknown
    else
      match s.zoneKind f.kind with
      | none => .error .unknown
      | some kind =>
        .ok (some { kind := kind, base := f.base, span := f.span, ppf := clamp 0 64 f.ppf
                    limit := clamp 0 1022 f.limit }, f.lock)

/-- Whether a load moves a quantity (R37). -/
def zoneClamped (x : ZoneLoad) : Bool :=
  match x.body with
  | .undefined => false
  | .malformed => false
  | .defined f => moved 0 64 f.ppf || moved 0 1022 f.limit

/-- A SET_ZONE refused: its body is the descriptor as it stands, where there is one (R38). -/
def State.refuseZone (s : State) (z : Nat) (r : Reason) : State × Answer :=
  (s, ⟨.refused r, if isZone z then (s.zone z).items 1 else []⟩)

/-- SET_ZONE carried out (R37, R38): the descriptor, the "zone revised" notice, then the store write. -/
def State.loadZone (s : State) (w : StoreWrite) (b : Option ZoneLoad) (level : Nat) : State × Answer :=
  match b with
  | none => if s.mapLevel < level then refuse s .level else refuse s .format
  | some x =>
    if s.mapLevel < level then s.refuseZone x.zone .level
    else
      match s.zoneArea x with
      | .error r => s.refuseZone x.zone r
      | .ok (area, lock) =>
        let old := s.zone x.zone
        let new : Zone := { area := area, lock := lock, isolated := old.isolated, revision := old.revision + 1 }
        loaded ((s.putZone x.zone new).zoneRevised x.zone new.revision) .map w (zoneClamped x) (old.items 1)

/-- SET_ZONE (R37, R38). -/
def execSetZone (l : Link) (h : Header) (w : StoreWrite) (b : Option ZoneLoad) (s : State) :
    Host.Outcome State Fault Refusal :=
  .next (takeRequest l h 17 (.setZone l h w b) s (s.loadZone w b))

/-! ## SET_RANGE and CLEAR_RANGE (R39, R40) -/

/-- SET_RANGE carried out (R39). A new range that shares a point and finds the table full is OVERLAP, an order that neither R2 nor
R39 gives (DEDUCED, notes/assumptions/9.md). -/
def State.loadRange (s : State) (w : StoreWrite) (x : RangeLoad) : State × Answer :=
  if x.count < 1 ∨ 1023 < x.count then refuse s .format
  else
    match portOf x.port with
    | none => refuse s .unknown
    | some p =>
      if !isPoint x.first || 1023 < x.first + x.count - 1 || 127 < x.zone then refuse s .unknown
      else
        let r : Range := { port := p, first := x.first, count := x.count, zone := x.zone }
        let ranges := s.desc.map.ranges
        let present := ranges.any fun t => t.beginsAt p x.first
        if ranges.any fun t => !t.beginsAt p x.first && r.overlaps t then refuse s .overlap
        else if !present && Config.rangeCapacity ≤ ranges.length then refuse s .full
        else
          let t := s.changeMap fun g => { g with ranges := putRange r g.ranges }
          loaded t .map w false [r.item, b2 t.desc.map.ranges.length]

/-- SET_RANGE (R39). -/
def execSetRange (l : Link) (h : Header) (w : StoreWrite) (b : Option RangeLoad) (s : State) :
    Host.Outcome State Fault Refusal :=
  .next (takeRequest l h 18 (.setRange l h w b) s fun level => mapLoad s level b (s.loadRange w))

/-- CLEAR_RANGE carried out (R40). -/
def State.removeRange (s : State) (w : StoreWrite) (x : PointRef) : State × Answer :=
  match portOf x.port with
  | none => refuse s .unknown
  | some p =>
    if s.desc.map.ranges.any fun t => t.beginsAt p x.point then
      loaded (s.changeMap fun g => { g with ranges := g.ranges.filter fun t => !t.beginsAt p x.point }) .map w false []
    else refuse s .unknown

/-- CLEAR_RANGE (R40). -/
def execClearRange (l : Link) (h : Header) (w : StoreWrite) (b : Option PointRef) (s : State) :
    Host.Outcome State Fault Refusal :=
  .next (takeRequest l h 19 (.clearRange l h w b) s fun level => mapLoad s level b (s.removeRange w))

/-! ## ISOLATE_ZONE and RESTORE_ZONE (R47, R48) -/

/-- The level ISOLATE_ZONE and RESTORE_ZONE need on a zone: the most privileged of the group level, the zone's lock
level, and 1 if an open incident latches the zone (R47). -/
def State.lockLevel (s : State) (z : Nat) : Nat :=
  min s.mapLevel (min (s.zone z).lock (if s.regime.latches z then 1 else 3))

/-- The checks ISOLATE_ZONE and RESTORE_ZONE share (R1, R2, R47). -/
def zoneLock (s : State) (level : Nat) (b : Option Nat) (f : Nat → State × Answer) : State × Answer :=
  mapLoad s level b fun z =>
    if !isZone z then refuse s .unknown
    else if s.lockLevel z < level then refuse s .level
    else f z

/-- ISOLATE_ZONE (R47). -/
def execIsolateZone (l : Link) (h : Header) (w : StoreWrite) (b : Option Nat) (s : State) :
    Host.Outcome State Fault Refusal :=
  .next (takeRequest l h 20 (.isolateZone l h w b) s fun level => zoneLock s level b fun z =>
    loaded (s.putZone z { s.zone z with isolated := true }) .map w false [])

/-- The points RESTORE_ZONE translates: those of the zone in ALARM with contributing incident 0 (R48). -/
def State.restorable (s : State) (z : Nat) : List (Port × Nat) :=
  if (s.zone z).isolated && !s.unconfigured then
    (s.zoneAlarms z).filter fun x => (s.point x.1 x.2).incident == 0
  else []

/-- RESTORE_ZONE carried out (R48): the flag, the store write, then the translations. -/
def State.restoreZone (s : State) (w : StoreWrite) (z : Nat) : State × Answer :=
  let points := s.restorable z
  let r := (s.putZone z { s.zone z with isolated := false }).writeThrough .map w
  (points.foldl (fun t x => t.handAlarm x.1 x.2) r.1, ⟨.done false r.2, [b2 points.length]⟩)

/-- RESTORE_ZONE (R48). -/
def execRestoreZone (l : Link) (h : Header) (w : StoreWrite) (b : Option Nat) (s : State) :
    Host.Outcome State Fault Refusal :=
  .next (takeRequest l h 21 (.restoreZone l h w b) s fun level => zoneLock s level b (s.restoreZone w))

end Sys2Proof.Machine
end

