-- ==== Sys2Proof/Machine/PanelCmds.lean ====
section
/-! DEFINITION. The events of the Point Input Unit (R21 to R32). -/

namespace Sys2Proof.Machine

/-- MEASURED_CLASS_CHANGE (R22). -/
def execMeasuredClassChange (p : Port) (input : Nat) (c : LineClass) (s : State) :
    Host.Outcome State Fault Refusal := .next (s.measure p input c)

/-- DEBOUNCE_EXPIRY (R22). -/
def execDebounceExpiry (p : Port) (input : Nat) (s : State) : Host.Outcome State Fault Refusal :=
  .next (s.debounced p input)

/-- POINT_EVENT (R24). -/
def execPointEvent (p : Port) (point : Nat) (c : PanelCondition) (s : State) : Host.Outcome State Fault Refusal :=
  .next (s.takePointEvent p point c)

/-- PANEL_RECORD_DISCARDED (R23, R24): a malformed record, or one on a CONTACT port, has no effect. -/
def execPanelRecordDiscarded (_p : Port) (s : State) : Host.Outcome State Fault Refusal := .next s

/-- POLL_TIMER_EXPIRY (R25). -/
def execPollTimerExpiry (p : Port) (s : State) : Host.Outcome State Fault Refusal := .next (s.pollExpiry p)

/-- POLL_ANSWER (R25, R27). -/
def execPollAnswer (p : Port) (s : State) : Host.Outcome State Fault Refusal := .next (s.pollAnswered p)

/-- ANSWER_TIMER_EXPIRY (R25, R26). -/
def execAnswerTimerExpiry (p : Port) (s : State) : Host.Outcome State Fault Refusal := .next (s.answerMissed p)

/-- LIST_RECORD (R28). -/
def execListRecord (p : Port) (point : Nat) (c : ListCondition) (s : State) : Host.Outcome State Fault Refusal :=
  .next (s.takeListRecord p point c)

/-- LIST_END (R28). -/
def execListEnd (p : Port) (s : State) : Host.Outcome State Fault Refusal := .next (s.takeListEnd p)

/-- RESYNC_TIMER_EXPIRY (R29). -/
def execResyncTimerExpiry (p : Port) (s : State) : Host.Outcome State Fault Refusal := .next (s.resyncExpiry p)

/-- RESET_DONE (R31). -/
def execResetDone (p : Port) (s : State) : Host.Outcome State Fault Refusal :=
  .next (s.leaveResetting p (.resetDone p))

/-- RESET_TIMER_EXPIRY (R32). -/
def execResetTimerExpiry (p : Port) (s : State) : Host.Outcome State Fault Refusal :=
  .next (s.leaveResetting p (.resetTimedOut p))

end Sys2Proof.Machine
end

