-- ==== Sys2Proof/Machine/RegimeCmds.lean ====
section
/-! DEFINITION. The requests of the Regime Controller, and PANEL_RESET (R30, R60, R63, R66, R68, R69). -/

namespace Sys2Proof.Machine

/-- The conditions of a request that needs a level and a configured coordinator, and then its form
(R15, R158, notes/assumptions/9.md). -/
def commandAt {α : Type} (s : State) (need level : Nat) (b : Option α) (f : α → State × Answer) : State × Answer :=
  if need < level then refuse s .level
  else if s.unconfigured then refuse s .state
  else
    match b with
    | none => refuse s .format
    | some x => f x

/-! ## RELATCH (R63) -/

/-- The answer to an accepted RELATCH: the record that remains (R63). -/
def relatched (r : State × Nat) : State × Answer :=
  accept r.1 (match r.1.regime.find r.2 with | some i => i.items | none => [])

/-- RELATCH of an incident by the re-translation of its origin point (R63). -/
def State.relatchOrigin (s : State) (i : Incident) (p : Port) (n : Nat) : State × Answer :=
  match s.translate p n with
  | .isolated _ => refuse s .isolated
  | .located r => relatched (s.relatchBy i r)
  | .unlocated _ r => relatched (s.relatchBy i r)

/-- RELATCH carried out (R63). -/
def State.relatch (s : State) (n : Nat) : State × Answer :=
  match s.regime.find n with
  | none => refuse s .unknown
  | some i =>
    match i.origin with
    | none => refuse s .state
    | some x => s.relatchOrigin i x.1 x.2

/-- RELATCH (R63). -/
def execRelatch (l : Link) (h : Header) (b : Option Nat) (s : State) : Host.Outcome State Fault Refusal :=
  .next (takeRequest l h 23 (.relatch l h b) s fun level => commandAt s 2 level b s.relatch)

/-! ## PANEL_RESET (R30) -/

/-- PANEL_RESET carried out (R30). -/
def State.panelReset (s : State) (n : Nat) : State × Answer :=
  match portOf n with
  | none => refuse s .unknown
  | some p =>
    if s.serial p && (s.port p).state == .supervised then accept (s.resetPanel p) []
    else refuse s .state

/-- PANEL_RESET (R30). -/
def execPanelReset (l : Link) (h : Header) (b : Option Nat) (s : State) : Host.Outcome State Fault Refusal :=
  .next (takeRequest l h 24 (.panelReset l h b) s fun level => commandAt s 1 level b s.panelReset)

/-! ## Drills (R66, R68) -/

/-- START_DRILL carried out (R66). -/
def State.drill (s : State) (x : DrillStart) : State × Answer :=
  if s.fc ≤ x.floor then refuse s .unknown
  else
    let r := s.startDrill x.floor x.lifts
    accept r.1 [b1 r.2]

/-- START_DRILL (R66). -/
def execStartDrill (l : Link) (h : Header) (b : Option DrillStart) (s : State) :
    Host.Outcome State Fault Refusal :=
  .next (takeRequest l h 25 (.startDrill l h b) s fun level =>
    if 2 < level then refuse s .level
    else if s.regime.regime ≠ .normal then refuse s .state
    else commandAt s 2 level b s.drill)

/-- A stand-down carried out, with the number of incidents closed (R70). -/
def State.standDownAnswer (s : State) (cause : RegimeCause) : State × Answer :=
  let r := s.standDown cause
  accept r.1 [b1 r.2]

/-- END_DRILL (R68). -/
def execEndDrill (l : Link) (h : Header) (b : Option Unit) (s : State) : Host.Outcome State Fault Refusal :=
  .next (takeRequest l h 26 (.endDrill l h b) s fun level =>
    if 2 < level then refuse s .level
    else if !s.regime.drill then refuse s .state
    else commandAt s 2 level b fun _ => s.standDownAnswer .drillEnd)

/-! ## GENERAL (R60) -/

/-- GENERAL carried out (R60, R61). -/
def State.generalRequest (s : State) : State × Answer :=
  let t := if s.regime.regime = .general then s else s.setRegime .general .request
  accept t [b1 t.regime.regime.ctorIdx]

/-- GENERAL (R60). -/
def execGeneral (l : Link) (h : Header) (b : Option Unit) (s : State) : Host.Outcome State Fault Refusal :=
  .next (takeRequest l h 27 (.general l h b) s fun level => commandAt s 2 level b fun _ => s.generalRequest)

/-! ## STAND_DOWN (R69) -/

/-- STAND_DOWN after its level and regime checks: the points check, then the stand-down (R69). -/
def State.standDownRequest (s : State) : State × Answer :=
  match s.activePoints with
  | [] => s.standDownAnswer .standDown
  | x :: rest => (s, ⟨.refused .pointsActive, [b2 (rest.length + 1), pointField x]⟩)

/-- STAND_DOWN (R69). -/
def execStandDown (l : Link) (h : Header) (b : Option Unit) (s : State) : Host.Outcome State Fault Refusal :=
  .next (takeRequest l h 28 (.standDown l h b) s fun level =>
    if 1 < level then refuse s .level
    else if s.regime.regime = .normal ∨ s.regime.regime = .standdown then refuse s .state
    else commandAt s 1 level b fun _ => s.standDownRequest)

end Sys2Proof.Machine
end

