-- ==== Sys2Proof/Machine/Dispatch.lean ====
section
/-! DEFINITION. The dispatch of commands to their meanings: one arm per constructor, in the order of
spec/opcode_table.json. -/

namespace Sys2Proof.Machine

def exec (i : Instr) (s : State) : Host.Outcome State Fault Refusal :=
  match i with
  | .coldStart answers buildingGood inputGood mapGood => Sys2Proof.Machine.execColdStart answers buildingGood inputGood mapGood s
  | .status l h b => Sys2Proof.Machine.execStatus l h b s
  | .fetchReports l h b => Sys2Proof.Machine.execFetchReports l h b s
  | .queryFloor l h b => Sys2Proof.Machine.execQueryFloor l h b s
  | .queryStair l h b => Sys2Proof.Machine.execQueryStair l h b s
  | .queryCar l h b => Sys2Proof.Machine.execQueryCar l h b s
  | .queryBank l h b => Sys2Proof.Machine.execQueryBank l h b s
  | .queryDoor l h b => Sys2Proof.Machine.execQueryDoor l h b s
  | .querySection l h b => Sys2Proof.Machine.execQuerySection l h b s
  | .queryZone l h b => Sys2Proof.Machine.execQueryZone l h b s
  | .queryRange l h b => Sys2Proof.Machine.execQueryRange l h b s
  | .queryIncident l h b => Sys2Proof.Machine.execQueryIncident l h b s
  | .queryInstance l h b => Sys2Proof.Machine.execQueryInstance l h b s
  | .queryPort l h b => Sys2Proof.Machine.execQueryPort l h b s
  | .queryPoint l h b => Sys2Proof.Machine.execQueryPoint l h b s
  | .scanFloors l h b => Sys2Proof.Machine.execScanFloors l h b s
  | .setOccupancy l h b => Sys2Proof.Machine.execSetOccupancy l h b s
  | .adjustOccupancy l h b => Sys2Proof.Machine.execAdjustOccupancy l h b s
  | .setBuilding l h w b => Sys2Proof.Machine.execSetBuilding l h w b s
  | .setFloor l h w b => Sys2Proof.Machine.execSetFloor l h w b s
  | .setStair l h w b => Sys2Proof.Machine.execSetStair l h w b s
  | .setBank l h w b => Sys2Proof.Machine.execSetBank l h w b s
  | .setCar l h w b => Sys2Proof.Machine.execSetCar l h w b s
  | .setSection l h w b => Sys2Proof.Machine.execSetSection l h w b s
  | .setDoor l h w b => Sys2Proof.Machine.execSetDoor l h w b s
  | .setPhrase l h w b => Sys2Proof.Machine.execSetPhrase l h w b s
  | .setTemplate l h w b => Sys2Proof.Machine.execSetTemplate l h w b s
  | .setPort l h w b => Sys2Proof.Machine.execSetPort l h w b s
  | .setZone l h w b => Sys2Proof.Machine.execSetZone l h w b s
  | .setRange l h w b => Sys2Proof.Machine.execSetRange l h w b s
  | .clearRange l h w b => Sys2Proof.Machine.execClearRange l h w b s
  | .isolateZone l h w b => Sys2Proof.Machine.execIsolateZone l h w b s
  | .restoreZone l h w b => Sys2Proof.Machine.execRestoreZone l h w b s
  | .stairUse l h w b => Sys2Proof.Machine.execStairUse l h w b s
  | .relatch l h b => Sys2Proof.Machine.execRelatch l h b s
  | .panelReset l h b => Sys2Proof.Machine.execPanelReset l h b s
  | .startDrill l h b => Sys2Proof.Machine.execStartDrill l h b s
  | .endDrill l h b => Sys2Proof.Machine.execEndDrill l h b s
  | .general l h b => Sys2Proof.Machine.execGeneral l h b s
  | .standDown l h b => Sys2Proof.Machine.execStandDown l h b s
  | .floorCommandEvacuate l h b => Sys2Proof.Machine.execFloorCommandEvacuate l h b s
  | .floorCommandDefend l h b => Sys2Proof.Machine.execFloorCommandDefend l h b s
  | .floorCommandAlert l h b => Sys2Proof.Machine.execFloorCommandAlert l h b s
  | .doorCommandForce l h b => Sys2Proof.Machine.execDoorCommandForce l h b s
  | .doorCommandHold l h b => Sys2Proof.Machine.execDoorCommandHold l h b s
  | .doorCommandNormal l h b => Sys2Proof.Machine.execDoorCommandNormal l h b s
  | .doorCommandRetry l h b => Sys2Proof.Machine.execDoorCommandRetry l h b s
  | .carCommandRecall l h b => Sys2Proof.Machine.execCarCommandRecall l h b s
  | .carCommandReturn l h b => Sys2Proof.Machine.execCarCommandReturn l h b s
  | .announce l h b => Sys2Proof.Machine.execAnnounce l h b s
  | .cancelAnnounce l h b => Sys2Proof.Machine.execCancelAnnounce l h b s
  | .invalidKind l h kind => Sys2Proof.Machine.execInvalidKind l h kind s
  | .badClaimedLevel l station tag kind => Sys2Proof.Machine.execBadClaimedLevel l station tag kind s
  | .frameCrcDiscard l => Sys2Proof.Machine.execFrameCrcDiscard l s
  | .frameHeldDiscard l => Sys2Proof.Machine.execFrameHeldDiscard l s
  | .heldFrameTaken l => Sys2Proof.Machine.execHeldFrameTaken l s
  | .lineBreak l => Sys2Proof.Machine.execLineBreak l s
  | .receiverSilenceExpiry l => Sys2Proof.Machine.execReceiverSilenceExpiry l s
  | .measuredClassChange p input measured => Sys2Proof.Machine.execMeasuredClassChange p input measured s
  | .debounceExpiry p input => Sys2Proof.Machine.execDebounceExpiry p input s
  | .pointEvent p point c => Sys2Proof.Machine.execPointEvent p point c s
  | .panelRecordDiscarded p => Sys2Proof.Machine.execPanelRecordDiscarded p s
  | .pollTimerExpiry p => Sys2Proof.Machine.execPollTimerExpiry p s
  | .pollAnswer p => Sys2Proof.Machine.execPollAnswer p s
  | .answerTimerExpiry p => Sys2Proof.Machine.execAnswerTimerExpiry p s
  | .listRecord p point c => Sys2Proof.Machine.execListRecord p point c s
  | .listEnd p => Sys2Proof.Machine.execListEnd p s
  | .resyncTimerExpiry p => Sys2Proof.Machine.execResyncTimerExpiry p s
  | .resetDone p => Sys2Proof.Machine.execResetDone p s
  | .resetTimerExpiry p => Sys2Proof.Machine.execResetTimerExpiry p s
  | .holdTimerExpiry floor => Sys2Proof.Machine.execHoldTimerExpiry floor s
  | .drainTimerExpiry => Sys2Proof.Machine.execDrainTimerExpiry s
  | .carPoll => Sys2Proof.Machine.execCarPoll s
  | .carStatusRecord car record => Sys2Proof.Machine.execCarStatusRecord car record s
  | .carSilenceExpiry car => Sys2Proof.Machine.execCarSilenceExpiry car s
  | .travelTimerExpiry car => Sys2Proof.Machine.execTravelTimerExpiry car s
  | .parkConfirmExpiry car => Sys2Proof.Machine.execParkConfirmExpiry car s
  | .doorLoopPoll => Sys2Proof.Machine.execDoorLoopPoll s
  | .nodeAnswer floor unlocked => Sys2Proof.Machine.execNodeAnswer floor unlocked s
  | .nodeSilenceExpiry floor => Sys2Proof.Machine.execNodeSilenceExpiry floor s
  | .supplyUnitAnswer sec ok => Sys2Proof.Machine.execSupplyUnitAnswer sec ok s
  | .supplySilenceExpiry sec => Sys2Proof.Machine.execSupplySilenceExpiry sec s
  | .releaseVerifyExpiry floor stair => Sys2Proof.Machine.execReleaseVerifyExpiry floor stair s
  | .lockVerifyExpiry floor stair => Sys2Proof.Machine.execLockVerifyExpiry floor stair s
  | .relockHoldExpiry => Sys2Proof.Machine.execRelockHoldExpiry s
  | .phraseEnd engine => Sys2Proof.Machine.execPhraseEnd engine s
  | .gapTimerExpiry number => Sys2Proof.Machine.execGapTimerExpiry number s
  | .tenantExpiry number => Sys2Proof.Machine.execTenantExpiry number s
  | .zoneLineFault floor => Sys2Proof.Machine.execZoneLineFault floor s
  | .zoneLineRestored floor => Sys2Proof.Machine.execZoneLineRestored floor s
  | .byteTaken l byte w => Sys2Proof.Machine.execByteTaken l byte w s

end Sys2Proof.Machine
end

