-- ==== Sys2Proof/Machine/Clock.lean ====
section
/-! DEFINITION. What the coordinator does when no command waits (DESIGN CHOICE, notes/assumptions/1.md and 2.md):
it carries out what is due, one thing in a step, and when nothing is due a tenth of a second passes. -/

namespace Sys2Proof.Machine

/-- Something due: the request in hand on a link, or the command of the table that stands for it. -/
inductive Due where
  | request (l : Link) (c : Instr)
  | event (c : Instr)
  deriving DecidableEq, Repr

/-- Whether a timer is due. -/
def State.isDue (s : State) (t : Option Nat) : Bool :=
  match t with
  | some t => t ≤ s.clock
  | none => false

/-- An event, if its timer is due. -/
def State.when (s : State) (t : Option Nat) (c : Instr) : List Due := if s.isDue t then [.event c] else []

/-- What is due on a link (R156, R157): its request in hand, else its held frame; and its silence. -/
def State.linkDue (s : State) (l : Link) : List Due :=
  let x := s.link l
  (match x.inHand with
    | some c => [.request l c]
    | none => if x.held.isSome then [.event (.heldFrameTaken l)] else [])
    ++ s.when x.silence (.receiverSilenceExpiry l)

/-- What is due at a panel port (R22, R25, R29, R32). -/
def State.portDue (s : State) (p : Port) : List Due :=
  let x := s.port p
  s.when x.pollTimer (.pollTimerExpiry p) ++ s.when x.answerTimer (.answerTimerExpiry p)
    ++ s.when (x.resync.map (·.timer)) (.resyncTimerExpiry p) ++ s.when x.resetTimer (.resetTimerExpiry p)
    ++ x.inputs.rows.flatMap fun r => s.when (r.2.candidate.map (·.due)) (.debounceExpiry p r.1)

/-- What is due at a car (R111, R117). -/
def State.carDue (s : State) (n : Nat) (c : CarLive) : List Due :=
  s.when c.silence (.carSilenceExpiry n) ++ s.when (c.run.bind (·.travelTimer)) (.travelTimerExpiry n)
    ++ s.when (c.run.bind (·.parkTimer)) (.parkConfirmExpiry n)

/-- The verify timer of a door, if it is due (R129, R134). -/
def State.doorDue (s : State) (n : Nat) (d : DoorLive) : List Due :=
  match d.verify with
  | some (.release, t) => s.when (some t) (.releaseVerifyExpiry (doorFloor n) (doorStair n))
  | some (.lock, t) => s.when (some t) (.lockVerifyExpiry (doorFloor n) (doorStair n))
  | none => []

/-- What is due of a program (R148, R149). -/
def State.progDue (s : State) (n : Nat) (p : Prog) : List Due :=
  (match p.engine with | some e => s.when p.phraseTimer (.phraseEnd e) | none => [])
    ++ s.when p.gapTimer (.gapTimerExpiry n)

/-- Everything that is due. -/
def State.due (s : State) : List Due :=
  s.linkDue .host ++ s.linkDue .service ++ allPorts.flatMap s.portDue
    ++ s.evac.queue.flatMap (fun e => s.when (some e.timer) (.holdTimerExpiry e.floor))
    ++ s.when s.stairs.drainTimer .drainTimerExpiry
    ++ s.when (some s.lifts.pollTimer) .carPoll
    ++ s.lifts.cars.rows.flatMap (fun r => s.carDue r.1 r.2)
    ++ s.when (some s.doors.pollTimer) .doorLoopPoll
    ++ s.doors.nodes.rows.flatMap (fun r => s.when r.2.silence (.nodeSilenceExpiry r.1))
    ++ s.doors.sections.rows.flatMap (fun r => s.when r.2.silence (.supplySilenceExpiry r.1))
    ++ s.doors.doors.rows.flatMap (fun r => s.doorDue r.1 r.2)
    ++ s.when s.doors.relockTimer .relockHoldExpiry
    ++ s.audio.progs.rows.flatMap (fun r => s.progDue r.1 r.2)
    ++ s.audio.tenants.flatMap fun e => s.when e.timer (.tenantExpiry e.prog)

/-- The request in hand on a link is carried out whole: its reply is sent, it is in hand no longer, and the frame held
behind it is held still (R157, notes/assumptions/7.md). -/
def State.performRequest (s : State) (l : Link) (c : Instr) : Host.Outcome State Fault Refusal :=
  match exec c (s.setLink l { s.link l with inHand := none, held := none }) with
  | .next t => .next (t.setLink l { t.link l with held := (s.link l).held })
  | .fault f => .fault f
  | .refused r => .refused r

/-- Something due is carried out. -/
def State.perform (s : State) : Due → Host.Outcome State Fault Refusal
  | .request l c => s.performRequest l c
  | .event c => exec c s

/-- A step with no command waiting. Of several things due together any may be first: the free choice of the
configuration says which (notes/assumptions/2.md). -/
def State.idle (s : State) : Host.Outcome State Fault Refusal :=
  match s.due with
  | [] => .next { s with clock := s.clock + 1 }
  | [d] => s.perform d
  | d :: rest =>
    let t := { s with choices := s.choices + 1 }
    match (d :: rest)[Config.choice s.choices % (rest.length + 1)]? with
    | some x => t.perform x
    | none => t.perform d

end Sys2Proof.Machine
end

