-- ==== Sys2Proof/Machine/Encode.lean ====
section
/-! DEFINITION. The bytes that spell a request (Figures 10-3 and 10-6, R166), written from the layout tables apart
from the reading of Frames.lean, so that the two can be held against each other. -/

namespace Sys2Proof.Machine

/-- A two-byte signed field. -/
def signed2 (n : Int) : List Byte := b2 (BitVec.ofInt 16 n).toNat

/-- A list of two-byte entries with its count carried as one less (Figure 10-6). -/
def shortList (l : List Nat) : List Byte := b1 (l.length - 1) ++ l.flatMap b2

/-- An in-use value. -/
def useField (b : Bool) : List Byte := b1 (if b then 0 else 1)

/-- A door named by floor and stair. -/
def doorRefBody (x : DoorRef) : List Byte := b1 x.floor ++ b1 x.stair

/-- A port and a point. -/
def pointRefBody (x : PointRef) : List Byte := b1 x.port ++ b2 x.point

def buildingBody (x : BuildingLoad) : List Byte :=
  b2 x.fc ++ b1 x.street ++ opt1 x.coreAbove ++ opt1 x.coreBelow ++ opt1 x.threshold ++ opt2 x.holdMax
    ++ opt1 x.drainInterval ++ opt2 x.relockHold ++ opt1 x.verifyTime ++ opt1 x.recallMargin ++ opt1 x.travelTime
    ++ opt1 x.parkConfirm

/-- The further fields of a load, none in its removal form (R166). -/
def fieldsBody {α : Type} (o : Option α) (f : α → List Byte) : List Byte :=
  match o with
  | none => []
  | some x => f x

def floorFieldsBody (x : FloorFields) : List Byte := bflag x.direct ++ b2 x.occupancy

def stairFieldsBody (x : StairFields) : List Byte :=
  b1 x.low ++ b1 x.high ++ b1 x.weight ++ b2 x.capacity ++ b1 x.drain ++ b2 x.phrase ++ useField x.inUse

def bankFieldsBody (x : BankFields) : List Byte := b1 x.p ++ b1 x.q ++ b1 x.low ++ b1 x.high

def carFieldsBody (x : CarFields) : List Byte := b1 x.bank ++ b1 x.address

def doorFieldsBody (x : DoorFields) : List Byte := b1 x.sec ++ bflag x.reentry

def templateBody (x : TemplateLoad) : List Byte :=
  b1 (templateNumber x.template) ++ fieldsBody x.list fun l => shortList (l.map fun p => p.getD 65535)

def portBody (x : PortLoad) : List Byte :=
  b1 x.port ++ b1 x.mode.ctorIdx ++ b1 x.low ++ b1 x.high ++ b1 x.debounce ++ b1 x.supervision

/-- The kind of a zone by its position in R36, where NONE is 0. -/
def zoneKindCode : ZoneKindLoad → Nat
  | .floor => 1
  | .manual => 2
  | .stair _ => 3
  | .shaft _ => 4

/-- The stair or bank field of a kind that has one. -/
def zoneKindField : ZoneKindLoad → List Byte
  | .floor => []
  | .manual => []
  | .stair s => b1 s
  | .shaft b => b1 b

def zoneFieldsBody (x : ZoneFields) : List Byte :=
  b1 (zoneKindCode x.kind) ++ b1 x.base ++ b1 (x.span - 1) ++ b1 x.ppf ++ b2 x.limit ++ zoneKindField x.kind
    ++ b1 x.lock

/-- The body of a SET_ZONE of one of the five kinds; a malformed one has no bytes of its own. -/
def zoneBody (x : ZoneLoad) : Option (List Byte) :=
  match x.body with
  | .undefined => some (b1 x.zone ++ b1 0)
  | .defined f => some (b1 x.zone ++ zoneFieldsBody f)
  | .malformed => none

def announcementBody (x : Announcement) : List Byte :=
  b1 x.floors.length ++ x.floors.flatMap b1 ++ shortList x.phrases ++ b1 x.times ++ b1 x.gap ++ b2 x.expiry

/-- The link, header and body of a request whose body has the form of its kind; `none` for the other commands. -/
def Instr.request : Instr → Option (Link × Header × List Byte)
  | .status l h b => b.map fun _ => (l, h, [])
  | .fetchReports l h b => b.map fun _ => (l, h, [])
  | .queryFloor l h b => b.map fun x => (l, h, b1 0 ++ b1 x)
  | .queryStair l h b => b.map fun x => (l, h, b1 1 ++ b1 x)
  | .queryCar l h b => b.map fun x => (l, h, b1 2 ++ b1 x)
  | .queryBank l h b => b.map fun x => (l, h, b1 3 ++ b1 x)
  | .queryDoor l h b => b.map fun x => (l, h, b1 4 ++ doorRefBody x)
  | .querySection l h b => b.map fun x => (l, h, b1 5 ++ b1 x)
  | .queryZone l h b => b.map fun x => (l, h, b1 6 ++ b1 x)
  | .queryRange l h b => b.map fun x => (l, h, b1 7 ++ pointRefBody x)
  | .queryIncident l h b => b.map fun x => (l, h, b1 8 ++ b1 x)
  | .queryInstance l h b => b.map fun x => (l, h, b1 9 ++ b1 x)
  | .queryPort l h b => b.map fun x => (l, h, b1 10 ++ b1 x)
  | .queryPoint l h b => b.map fun x => (l, h, b1 11 ++ pointRefBody x)
  | .scanFloors l h b => b.map fun x => (l, h, b1 x.phase.ctorIdx ++ b1 x.comparison.ctorIdx)
  | .setOccupancy l h b => b.map fun x => (l, h, b1 x.floor ++ b2 x.value)
  | .adjustOccupancy l h b => b.map fun x => (l, h, b1 x.floor ++ signed2 x.delta)
  | .setBuilding l h _ b => b.map fun x => (l, h, buildingBody x)
  | .setFloor l h _ b => b.map fun x => (l, h, b1 x.floor ++ fieldsBody x.fields floorFieldsBody)
  | .setStair l h _ b => b.map fun x => (l, h, b1 x.stair ++ fieldsBody x.fields stairFieldsBody)
  | .setBank l h _ b => b.map fun x => (l, h, b1 x.bank ++ fieldsBody x.fields bankFieldsBody)
  | .setCar l h _ b => b.map fun x => (l, h, b1 x.car ++ fieldsBody x.fields carFieldsBody)
  | .setSection l h _ b => b.map fun x => (l, h, b1 x.sec ++ fieldsBody x.capacity b1)
  | .setDoor l h _ b => b.map fun x => (l, h, b1 x.floor ++ b1 x.stair ++ fieldsBody x.fields doorFieldsBody)
  | .setPhrase l h _ b => b.map fun x => (l, h, b2 x.phrase ++ fieldsBody x.length b1)
  | .setTemplate l h _ b => b.map fun x => (l, h, templateBody x)
  | .setPort l h _ b => b.map fun x => (l, h, portBody x)
  | .setZone l h _ b => (b.bind zoneBody).map fun x => (l, h, x)
  | .setRange l h _ b => b.map fun x => (l, h, b1 x.port ++ b2 x.first ++ b2 x.count ++ b1 x.zone)
  | .clearRange l h _ b => b.map fun x => (l, h, pointRefBody x)
  | .isolateZone l h _ b => b.map fun x => (l, h, b1 x)
  | .restoreZone l h _ b => b.map fun x => (l, h, b1 x)
  | .stairUse l h _ b => b.map fun x => (l, h, b1 x.stair ++ useField x.inUse)
  | .relatch l h b => b.map fun x => (l, h, b1 x)
  | .panelReset l h b => b.map fun x => (l, h, b1 x)
  | .startDrill l h b => b.map fun x => (l, h, b1 x.floor ++ bflag x.lifts)
  | .endDrill l h b => b.map fun _ => (l, h, [])
  | .general l h b => b.map fun _ => (l, h, [])
  | .standDown l h b => b.map fun _ => (l, h, [])
  | .floorCommandEvacuate l h b => b.map fun x => (l, h, b1 x ++ b1 0)
  | .floorCommandDefend l h b => b.map fun x => (l, h, b1 x ++ b1 1)
  | .floorCommandAlert l h b => b.map fun x => (l, h, b1 x ++ b1 2)
  | .doorCommandForce l h b => b.map fun x => (l, h, doorRefBody x ++ b1 0)
  | .doorCommandHold l h b => b.map fun x => (l, h, doorRefBody x ++ b1 1)
  | .doorCommandNormal l h b => b.map fun x => (l, h, doorRefBody x ++ b1 2)
  | .doorCommandRetry l h b => b.map fun x => (l, h, doorRefBody x ++ b1 3)
  | .carCommandRecall l h b => b.map fun x => (l, h, b1 x ++ b1 0)
  | .carCommandReturn l h b => b.map fun x => (l, h, b1 x ++ b1 1)
  | .announce l h b => b.map fun x => (l, h, announcementBody x)
  | .cancelAnnounce l h b => b.map fun x => (l, h, b1 x)
  | .invalidKind .. | .badClaimedLevel .. | .coldStart .. | .frameCrcDiscard .. | .frameHeldDiscard ..
  | .heldFrameTaken .. | .lineBreak .. | .receiverSilenceExpiry .. | .measuredClassChange ..
  | .debounceExpiry .. | .pointEvent .. | .panelRecordDiscarded .. | .pollTimerExpiry .. | .pollAnswer ..
  | .answerTimerExpiry .. | .listRecord .. | .listEnd .. | .resyncTimerExpiry .. | .resetDone ..
  | .resetTimerExpiry .. | .holdTimerExpiry .. | .drainTimerExpiry | .carPoll | .carStatusRecord ..
  | .carSilenceExpiry .. | .travelTimerExpiry .. | .parkConfirmExpiry .. | .doorLoopPoll | .nodeAnswer ..
  | .nodeSilenceExpiry .. | .supplyUnitAnswer .. | .supplySilenceExpiry .. | .releaseVerifyExpiry ..
  | .lockVerifyExpiry .. | .relockHoldExpiry | .phraseEnd .. | .gapTimerExpiry .. | .tenantExpiry ..
  | .zoneLineFault .. | .zoneLineRestored .. | .byteTaken .. => none

/-- How the store ends the write of a request that makes one. -/
def Instr.storeWrite : Instr → Option StoreWrite
  | .setBuilding _ _ w _ | .setFloor _ _ w _ | .setStair _ _ w _ | .setBank _ _ w _ | .setCar _ _ w _
  | .setSection _ _ w _ | .setDoor _ _ w _ | .setPhrase _ _ w _ | .setTemplate _ _ w _ | .setPort _ _ w _
  | .setZone _ _ w _ | .setRange _ _ w _ | .clearRange _ _ w _ | .isolateZone _ _ w _ | .restoreZone _ _ w _
  | .stairUse _ _ w _ => some w
  | _ => none

/-- The bytes of a request frame from the byte after the length to the end of the body (Figure 10-3). -/
def requestBytes (h : Header) (kind : Nat) (body : List Byte) : List Byte :=
  b1 (h.station * 16 + levelNumber h.claimed) ++ b1 h.tag ++ b1 kind ++ body

end Sys2Proof.Machine
end

