-- ==== Sys2Proof/Safety.lean ====
section
/-! DEFINITION. What a step must never do and what it must always keep, in the terms the statements use: frames, the
reply to a request, the bounds and the forms of the coordinator's lists and tables, and the invariants of each
division. -/

namespace Sys2Proof.Machine

/-! ## Frames -/

/-- The parts of the state, one for each field. -/
inductive Part where
  | clock | choices | orders | pending | store | desc | panel | regime | evac | stairs | lifts | doors | audio | links
  deriving DecidableEq, Repr

/-- A part is the same in two states. -/
def Part.same (s t : State) : Part → Prop
  | .clock => t.clock = s.clock
  | .choices => t.choices = s.choices
  | .orders => t.orders = s.orders
  | .pending => t.pending = s.pending
  | .store => t.store = s.store
  | .desc => t.desc = s.desc
  | .panel => t.panel = s.panel
  | .regime => t.regime = s.regime
  | .evac => t.evac = s.evac
  | .stairs => t.stairs = s.stairs
  | .lifts => t.lifts = s.lifts
  | .doors => t.doors = s.doors
  | .audio => t.audio = s.audio
  | .links => t.links = s.links

/-- Every part but the listed ones is the same. -/
def State.onlyChanges (s t : State) (l : List Part) : Prop := ∀ p : Part, p ∉ l → p.same s t

/-- The parts a command may change. -/
def touches : Instr → List Part
  | .coldStart .. => [.clock, .orders, .desc, .panel, .regime, .evac, .stairs, .lifts, .doors, .audio, .links]
  | .status .. | .fetchReports .. | .queryFloor .. | .queryStair .. | .queryCar .. | .queryBank .. | .queryDoor ..
  | .querySection .. | .queryZone .. | .queryRange .. | .queryIncident .. | .queryInstance .. | .queryPort ..
  | .queryPoint .. | .scanFloors .. | .invalidKind .. | .badClaimedLevel .. | .frameCrcDiscard ..
  | .frameHeldDiscard .. | .heldFrameTaken .. | .lineBreak .. | .receiverSilenceExpiry .. | .byteTaken .. => [.links]
  | .setOccupancy .. | .adjustOccupancy .. | .floorCommandEvacuate .. | .floorCommandDefend ..
  | .floorCommandAlert .. | .holdTimerExpiry .. | .drainTimerExpiry =>
    [.orders, .evac, .stairs, .doors, .audio, .links]
  | .setBuilding .. | .restoreZone .. =>
    [.orders, .store, .desc, .panel, .regime, .evac, .stairs, .lifts, .doors, .audio, .links]
  | .setFloor .. | .setStair .. | .stairUse .. => [.orders, .store, .desc, .evac, .stairs, .doors, .audio, .links]
  | .setBank .. | .setCar .. => [.store, .desc, .lifts, .links]
  | .setSection .. | .setDoor .. => [.orders, .store, .desc, .doors, .links]
  | .setPhrase .. | .setTemplate .. | .setRange .. | .clearRange .. | .isolateZone .. => [.store, .desc, .links]
  | .setPort .. => [.orders, .store, .desc, .panel, .regime, .links]
  | .setZone .. => [.store, .desc, .regime, .links]
  | .startDrill .. | .general .. => [.orders, .regime, .evac, .stairs, .lifts, .doors, .audio, .links]
  | .relatch .. | .endDrill .. | .standDown .. | .debounceExpiry .. | .pointEvent .. | .listRecord .. =>
    [.orders, .panel, .regime, .evac, .stairs, .lifts, .doors, .audio, .links]
  | .panelReset .. | .pollAnswer .. | .resyncTimerExpiry .. | .resetDone .. | .resetTimerExpiry .. =>
    [.orders, .panel, .links]
  | .doorCommandForce .. | .doorCommandHold .. | .doorCommandNormal .. | .doorCommandRetry .. | .nodeAnswer ..
  | .nodeSilenceExpiry .. | .supplyUnitAnswer .. | .supplySilenceExpiry .. | .releaseVerifyExpiry ..
  | .lockVerifyExpiry .. => [.orders, .doors, .links]
  | .carCommandRecall .. | .carCommandReturn .. | .carStatusRecord .. | .carSilenceExpiry ..
  | .travelTimerExpiry .. | .parkConfirmExpiry .. => [.orders, .lifts, .links]
  | .announce .. | .cancelAnnounce .. | .gapTimerExpiry .. | .tenantExpiry .. | .zoneLineFault ..
  | .zoneLineRestored .. => [.orders, .audio, .links]
  | .measuredClassChange .. => [.panel]
  | .panelRecordDiscarded .. => []
  | .pollTimerExpiry .. => [.orders, .panel]
  | .answerTimerExpiry .. => [.panel, .links]
  | .listEnd .. => [.panel, .regime, .links]
  | .carPoll => [.orders, .lifts]
  | .doorLoopPoll => [.orders, .doors]
  | .relockHoldExpiry => [.orders, .regime, .lifts, .doors, .audio, .links]
  | .phraseEnd .. => [.orders, .regime, .evac, .lifts, .doors, .audio, .links]

/-! ## Requests and replies -/

/-- The link and header of a command that is a request, whatever the form of its body. -/
def sentBy : Instr → Option (Link × Header)
  | .status l h _ | .fetchReports l h _ | .queryFloor l h _ | .queryStair l h _ | .queryCar l h _
  | .queryBank l h _ | .queryDoor l h _ | .querySection l h _ | .queryZone l h _ | .queryRange l h _
  | .queryIncident l h _ | .queryInstance l h _ | .queryPort l h _ | .queryPoint l h _ | .scanFloors l h _
  | .setOccupancy l h _ | .adjustOccupancy l h _ | .relatch l h _ | .panelReset l h _ | .startDrill l h _
  | .endDrill l h _ | .general l h _ | .standDown l h _ | .floorCommandEvacuate l h _
  | .floorCommandDefend l h _ | .floorCommandAlert l h _ | .doorCommandForce l h _ | .doorCommandHold l h _
  | .doorCommandNormal l h _ | .doorCommandRetry l h _ | .carCommandRecall l h _ | .carCommandReturn l h _
  | .announce l h _ | .cancelAnnounce l h _ => some (l, h)
  | .setBuilding l h _ _ | .setFloor l h _ _ | .setStair l h _ _ | .setBank l h _ _ | .setCar l h _ _
  | .setSection l h _ _ | .setDoor l h _ _ | .setPhrase l h _ _ | .setTemplate l h _ _ | .setPort l h _ _
  | .setZone l h _ _ | .setRange l h _ _ | .clearRange l h _ _ | .isolateZone l h _ _ | .restoreZone l h _ _
  | .stairUse l h _ _ => some (l, h)
  | .coldStart .. | .invalidKind .. | .badClaimedLevel .. | .frameCrcDiscard .. | .frameHeldDiscard ..
  | .heldFrameTaken .. | .lineBreak .. | .receiverSilenceExpiry .. | .measuredClassChange ..
  | .debounceExpiry .. | .pointEvent .. | .panelRecordDiscarded .. | .pollTimerExpiry .. | .pollAnswer ..
  | .answerTimerExpiry .. | .listRecord .. | .listEnd .. | .resyncTimerExpiry .. | .resetDone ..
  | .resetTimerExpiry .. | .holdTimerExpiry .. | .drainTimerExpiry | .carPoll | .carStatusRecord ..
  | .carSilenceExpiry .. | .travelTimerExpiry .. | .parkConfirmExpiry .. | .doorLoopPoll | .nodeAnswer ..
  | .nodeSilenceExpiry .. | .supplyUnitAnswer .. | .supplySilenceExpiry .. | .releaseVerifyExpiry ..
  | .lockVerifyExpiry .. | .relockHoldExpiry | .phraseEnd .. | .gapTimerExpiry .. | .tenantExpiry ..
  | .zoneLineFault .. | .zoneLineRestored .. | .byteTaken .. => none

/-- A request whose body has not the form of its kind (R158). -/
def Instr.unreadable : Instr → Bool
  | .status _ _ b | .fetchReports _ _ b | .endDrill _ _ b | .general _ _ b | .standDown _ _ b => b.isNone
  | .queryFloor _ _ b | .queryStair _ _ b | .queryCar _ _ b | .queryBank _ _ b | .querySection _ _ b
  | .queryZone _ _ b | .queryIncident _ _ b | .queryInstance _ _ b | .queryPort _ _ b | .relatch _ _ b
  | .panelReset _ _ b | .floorCommandEvacuate _ _ b | .floorCommandDefend _ _ b | .floorCommandAlert _ _ b
  | .carCommandRecall _ _ b | .carCommandReturn _ _ b | .cancelAnnounce _ _ b => b.isNone
  | .queryDoor _ _ b | .doorCommandForce _ _ b | .doorCommandHold _ _ b | .doorCommandNormal _ _ b
  | .doorCommandRetry _ _ b => b.isNone
  | .queryRange _ _ b | .queryPoint _ _ b => b.isNone
  | .scanFloors _ _ b => b.isNone
  | .setOccupancy _ _ b => b.isNone
  | .adjustOccupancy _ _ b => b.isNone
  | .startDrill _ _ b => b.isNone
  | .announce _ _ b => b.isNone
  | .setBuilding _ _ _ b => b.isNone
  | .setFloor _ _ _ b => b.isNone
  | .setStair _ _ _ b => b.isNone
  | .setBank _ _ _ b => b.isNone
  | .setCar _ _ _ b => b.isNone
  | .setSection _ _ _ b => b.isNone
  | .setDoor _ _ _ b => b.isNone
  | .setPhrase _ _ _ b => b.isNone
  | .setTemplate _ _ _ b => b.isNone
  | .setPort _ _ _ b => b.isNone
  | .setZone _ _ _ b => b.isNone
  | .setRange _ _ _ b => b.isNone
  | .clearRange _ _ _ b => b.isNone
  | .isolateZone _ _ _ b | .restoreZone _ _ _ b => b.isNone
  | .stairUse _ _ _ b => b.isNone
  | .coldStart .. | .invalidKind .. | .badClaimedLevel .. | .frameCrcDiscard .. | .frameHeldDiscard ..
  | .heldFrameTaken .. | .lineBreak .. | .receiverSilenceExpiry .. | .measuredClassChange ..
  | .debounceExpiry .. | .pointEvent .. | .panelRecordDiscarded .. | .pollTimerExpiry .. | .pollAnswer ..
  | .answerTimerExpiry .. | .listRecord .. | .listEnd .. | .resyncTimerExpiry .. | .resetDone ..
  | .resetTimerExpiry .. | .holdTimerExpiry .. | .drainTimerExpiry | .carPoll | .carStatusRecord ..
  | .carSilenceExpiry .. | .travelTimerExpiry .. | .parkConfirmExpiry .. | .doorLoopPoll | .nodeAnswer ..
  | .nodeSilenceExpiry .. | .supplyUnitAnswer .. | .supplySilenceExpiry .. | .releaseVerifyExpiry ..
  | .lockVerifyExpiry .. | .relockHoldExpiry | .phraseEnd .. | .gapTimerExpiry .. | .tenantExpiry ..
  | .zoneLineFault .. | .zoneLineRestored .. | .byteTaken .. => false

/-- The level a request kind needs (Figure 10-2). Every effective level meets 3, at which CANCEL_ANNOUNCE stands too: what it
needs beyond that goes by its entry (R153). -/
def State.levelNeeded (s : State) (kind : Nat) : Nat :=
  if kind ≤ 6 ∨ 32 ≤ kind then 3
  else if 17 ≤ kind ∧ kind ≤ 21 then (if s.regime.regime = .normal then 2 else 1)
  else if kind = 24 ∨ 28 ≤ kind then 1
  else 2

/-- The request kinds that are refused STATE while UNCONFIGURED (R15): all but STATUS, FETCH_REPORTS, QUERY, SCAN_FLOORS,
SET_BUILDING, SET_PORT and the MAP requests. -/
def needsBuilding (kind : Nat) : Prop := kind = 5 ∨ kind = 6 ∨ (8 ≤ kind ∧ kind ≤ 15) ∨ 22 ≤ kind

/-- The regime or drill condition a request kind is judged on before its body is looked at (R1, R66, R68, R69, R152). -/
def State.regimeMet (s : State) (kind : Nat) : Prop :=
  ((7 ≤ kind ∧ kind ≤ 16) ∨ kind = 25 ∨ kind = 32 → s.regime.regime = .normal)
    ∧ (kind = 26 → s.regime.drill = true)
    ∧ (kind = 28 → s.regime.regime = .alarm ∨ s.regime.regime = .general)

/-- The other link. -/
def otherLink : Link → Link
  | .host => .service
  | .service => .host

/-- A link has no request in hand and no frame held, so a request that comes on it is carried out (R157). -/
def State.free (s : State) (l : Link) : Prop := (s.link l).inHand = none ∧ (s.link l).held = none

/-- The reply to a request, as Figure 10-4 and R159 fill its fields. -/
def replyTo (l : Link) (h : Header) (kind : Nat) (v : Verdict) (waiting : Nat) (body : List Byte) : Reply :=
  { station := h.station, level := effectiveLevel l h, tag := h.tag, kind := kind, verdict := v, waiting := waiting
    body := body }

/-- The last reply sent on a link answers a request of a header and kind with an outcome and a body. -/
def State.answered (t : State) (l : Link) (h : Header) (kind : Nat) (v : Verdict) (body : List Byte) : Prop :=
  (t.link l).reply = some (replyTo l h kind v (t.link l).reports.length body)

/-- The state with only a reply sent on a link: what a request that changes nothing leaves (R158, R161). -/
def State.replied (s : State) (l : Link) (h : Header) (kind : Nat) (v : Verdict) (body : List Byte) : State :=
  s.setLink l { s.link l with reply := some (replyTo l h kind v (s.link l).reports.length body) }

/-- Whether an outcome is REFUSED. -/
def Verdict.isRefused : Verdict → Bool
  | .refused _ => true
  | .done _ _ => false
  | .invalid => false

/-- The command that a good frame brings on a link, from its byte of station and level, its tag, its kind and its body (R158, Figure
10-3): a claimed level of 0 and a kind that names no request each have their own; any other frame brings a request of its kind
and header, with no readable body where no body of the kind's form has those bytes, and else with operands that fit the fields
of a body as long. -/
def frameCommand (l : Link) (w : StoreWrite) (stationLevel tag kind : Nat) (body : List Byte) (c : Instr) : Prop :=
  (stationLevel % 4 = 0 → c = .badClaimedLevel l (stationLevel / 16) tag kind)
    ∧ ∀ claimed : Level, levelNumber claimed = stationLevel % 4 →
      let h : Header := { station := stationLevel / 16, claimed := claimed, tag := tag }
      (kind < 1 ∨ 33 < kind → c = .invalidKind l h kind)
        ∧ (1 ≤ kind → kind ≤ 33 →
          sentBy c = some (l, h) ∧ Instr.kind c = some kind ∧ (∀ v, Instr.storeWrite c = some v → v = w)
            ∧ (Instr.unreadable c = true → ∀ d : Instr, d.wf = true → Instr.kind d = some kind →
              (∀ v, Instr.storeWrite d = some v → v = w) → Instr.request d ≠ some (l, h, body))
            ∧ (Instr.unreadable c = false → c.wf = true
              ∧ ∀ spelled, Instr.request c = some (l, h, spelled) → spelled.length = body.length))

/-- The bytes of a frame taken one after another by a link's receiver (R156). -/
def takeBytes (l : Link) (w : StoreWrite) : List Byte → State → Host.Outcome State Fault Refusal
  | [], s => .next s
  | b :: rest, s =>
    match exec (.byteTaken l b w) s with
    | .next t => takeBytes l w rest t
    | .fault r => .fault r
    | .refused r => .refused r

/-- A write of the store ended well or not: the keeping state it leaves (R3). -/
def keepingAfter : StoreWrite → Keeping
  | .written => .kept
  | .failed => .unkept

/-- NOT_KEPT is carried exactly when the write failed (R3). -/
def notKept : StoreWrite → Bool
  | .written => false
  | .failed => true

/-- A load of a group went through to the store: the group's keeping state, and the store's copy of it where the
write succeeded (R3). -/
def State.wroteGroup (s t : State) (g : StoreGroup) (w : StoreWrite) : Prop :=
  t.desc.keeping g = keepingAfter w
    ∧ t.store = match w with | .written => s.store.writeGroup t.desc g | .failed => s.store

/-- The conditions of R1 and R2 under which a BUILDING load other than SET_BUILDING goes on to its own checks: nothing in
hand on its link, effective level 2 or more privileged, regime NORMAL, and a building record. -/
def State.takesLoad (s : State) (l : Link) (h : Header) : Prop :=
  s.free l ∧ effectiveLevel l h ≤ 2 ∧ s.regime.regime = .normal ∧ s.unconfigured = false

/-- The conditions of R1 under which a MAP load goes on to its own checks. -/
def State.takesMap (s : State) (l : Link) (h : Header) : Prop :=
  s.free l ∧ effectiveLevel l h ≤ (if s.regime.regime = .normal then 2 else 1)

/-- Of the description, only the BUILDING group and its keeping state differ. -/
def State.onlyBuilding (s t : State) : Prop :=
  { t.desc with building := s.desc.building, keepBuilding := s.desc.keepBuilding } = s.desc

/-- Of the description, only the INPUT group and its keeping state differ. -/
def State.onlyInput (s t : State) : Prop :=
  { t.desc with input := s.desc.input, keepInput := s.desc.keepInput } = s.desc

/-- Of the description, only the MAP group and its keeping state differ, and the fallback indication is clear (R13). -/
def State.onlyMap (s t : State) : Prop :=
  { t.desc with map := s.desc.map, keepMap := s.desc.keepMap, fallback := s.desc.fallback } = s.desc
    ∧ t.desc.fallback = false

/-- One table is the other with the record of one key given (`some`) or taken away (`none`). -/
def sameButAt {α : Type} (old new : Table α) (k : Nat) (o : Option α) : Prop :=
  new.get k = o ∧ ∀ j, j ≠ k → new.get j = old.get j

/-- What a SET_OCCUPANCY or ADJUST_OCCUPANCY that gives floor `f` the live occupancy `v` does (R92, R162): the floor's
occupancy is `v`, every other floor keeps its own, and the description with the default occupancy stays. Unless the floor
heads the queue and its occupancy changes, nothing else changes and nothing is reported. A head that then passes the head
test is promoted; one that does not stays where it stands. -/
def State.occupied (s t : State) (f v : Nat) : Prop :=
  (t.floor f).occupancy = v ∧ (∀ g, g ≠ f → (t.floor g).occupancy = (s.floor g).occupancy)
    ∧ s.onlyChanges t [.orders, .evac, .stairs, .doors, .audio, .links]
    ∧ (s.head ≠ some f ∨ (s.floor f).occupancy = v →
        s.onlyChanges t [.evac, .links] ∧ t.evac.queue = s.evac.queue
          ∧ (∀ g, t.floor g = if g = f then { s.floor f with occupancy := v } else s.floor g)
          ∧ ∀ m : Link, (t.link m).reports = (s.link m).reports)
    ∧ (s.head = some f → (s.floor f).occupancy ≠ v →
        let passes := s.directExit f = true ∨ s.candidates f = []
          ∨ s.fits (shares v (s.weights (s.candidates f))) = true
        (passes → ((t.floor f).phase = .evacuate ∨ (t.floor f).phase = .defend) ∧ ∀ e ∈ t.evac.queue, e.floor ≠ f)
          ∧ (¬ passes → t.evac.queue = s.evac.queue ∧ ∀ g, (t.floor g).phase = (s.floor g).phase))

/-- The live record of one port is `x`, every other port's is as it was, and so is every point. -/
def State.onlyPort (s t : State) (p : Port) (x : PortLive) : Prop :=
  t.port p = x ∧ (∀ q, q ≠ p → t.port q = s.port q) ∧ t.panel.points = s.panel.points

/-- Every point of the point state table but one is as it was. -/
def State.otherPoints (s t : State) (p : Port) (n : Nat) : Prop :=
  ∀ q m, 1 ≤ m ∧ m ≤ 1023 → (q ≠ p ∨ m ≠ n) → t.point q m = s.point q m

/-- A point is translated into a result, located or unlocated (R43, R44). -/
def State.results (s : State) (p : Port) (n : Nat) (r : Result) : Prop :=
  s.translate p n = .located r ∨ ∃ why, s.translate p n = .unlocated why r

/-- The position of a value in a list, from 0: the code of an enumeration whose values its rule lists in that order (R166). -/
def posIn {α : Type} [DecidableEq α] (l : List α) (x : α) : Nat := l.findIdx fun y => decide (y = x)

/-- A floor is on its way or held in place: EVACUATE or DEFEND. -/
def Floor.sent (x : Floor) : Prop := x.phase = .evacuate ∨ x.phase = .defend

/-- The record a promotion gives a floor, its route and shares worked out from the state as it stands (R84, R96): the
direct exit, else its candidate set with the shares that are not 0, else DEFEND with neither. -/
def State.promoted (s : State) (f : Nat) : Floor :=
  let x := s.floor f
  let phase : Phase := if s.directExit f || !(s.candidates f).isEmpty then .evacuate else .defend
  { x with
    phase := phase
    route := if s.directExit f then .direct else if (s.candidates f).isEmpty then .empty else .stairs (s.candidates f)
    shares := if s.directExit f then [] else
      (shares x.occupancy (s.weights (s.candidates f))).filter fun y => y.2 != 0
    phaseTime := if phase = x.phase then x.phaseTime else s.now }

/-- Whether the head test promotes a floor that heads the queue (R83). -/
def State.passesHeadTest (s : State) (f : Nat) : Prop :=
  s.directExit f = true ∨ s.candidates f = []
    ∨ s.fits (shares (s.floor f).occupancy (s.weights (s.candidates f))) = true

/-- The queue without a floor. -/
def State.queueWithout (s : State) (f : Nat) : List QueueEntry := s.evac.queue.filter fun e => e.floor != f

/-- The arbiter of a section has nothing left to grant: no door waits while a slot is free (R132). -/
def State.settled (t : State) (k : Nat) : Prop :=
  ∀ x, t.doors.sections.get k = some x → x.waiting = [] ∨ t.effectiveCapacity k x ≤ x.grants.length

/-- Every door and section but those of section `k` is as it was, and so are the nodes, the general demand flag and the
unit's timers. -/
def State.otherSections (s t : State) (k : Nat) : Prop :=
  (∀ m, s.doorSection m ≠ k → t.doors.doors.get m = s.doors.doors.get m)
    ∧ (∀ j, j ≠ k → t.doors.sections.get j = s.doors.sections.get j)
    ∧ t.doors.nodes = s.doors.nodes ∧ t.doors.general = s.doors.general
    ∧ t.doors.relockTimer = s.doors.relockTimer ∧ t.doors.pollTimer = s.doors.pollTimer

/-- Every live car but one is as it was, and so are the banks and the poll timer. -/
def State.onlyCar (s t : State) (n : Nat) (c : CarLive) : Prop :=
  sameButAt s.lifts.cars t.lifts.cars n (some c) ∧ t.lifts.banks = s.lifts.banks
    ∧ t.lifts.pollTimer = s.lifts.pollTimer

/-! ## What a regime or an incident does to the cars (R109, R113, R119) -/

/-- Every car in AUTO with a position runs to the recall floor its bank then has in force, with a fresh budget, and has been
sent there (R109, R113, R114). -/
def State.autosRun (s t : State) : Prop :=
  ∀ n c k r p, s.lifts.cars.get n = some c → c.state = .auto → s.carBank n = some (k, r) → c.position = some p →
    let target := if t.regime.bars r.p then r.q else r.p
    ∃ d run, t.lifts.cars.get n = some d ∧ d.state = .recalling ∧ d.position = c.position ∧ d.run = some run
      ∧ run.target = target ∧ run.passes = 0
      ∧ run.budget = (p - target) + (target - p) + s.figure (·.recallMargin)
      ∧ .recall n target ∈ t.orders.drop s.orders.length

/-- The barred flags are worked out, and no run and no parked car is left at a barred floor while its bank has another in
force (R109, R119). -/
def State.redirected (t : State) : Prop :=
  (∀ k r, t.bankRec k = some r →
      (t.lifts.bank k).pBarred = t.regime.bars r.p ∧ (t.lifts.bank k).qBarred = t.regime.bars r.q)
    ∧ ∀ n c k r, t.lifts.cars.get n = some c → t.carBank n = some (k, r) → c.position ≠ none →
      let floor := if t.regime.bars r.p then r.q else r.p
      (∀ run, c.state = .recalling → c.run = some run → t.regime.bars run.target = true → run.target = floor)
        ∧ ∀ f, c.state = .parked → c.parked = some f → t.regime.bars f = true → f = floor

/-! ## What they do to the doors (R130 to R133) -/

/-- The arbiter of a section has nothing left to pre-empt: no granted door that is not forced has a higher class than the
first waiting one (R133). -/
def State.ranked (t : State) (k : Nat) : Prop :=
  ∀ x first d n e, t.doors.sections.get k = some x → x.waiting.head? = some first →
    t.doors.doors.get first = some d → n ∈ x.grants → t.doors.doors.get n = some e → e.override ≠ .forceReleased →
      e.cls.getD 4 ≤ d.cls.getD 4

/-- General demand has begun: every LOCKED door that is not held has demand from now on, with the class of its floor and
stair; a held one is as it was; and every section has granted and pre-empted all it can (R130 to R133). -/
def State.demandBegun (s t : State) : Prop :=
  t.doors.general = true ∧ t.doors.relockTimer = s.doors.relockTimer
    ∧ (∀ n d, s.doors.doors.get n = some d → d.state = .locked → d.override ≠ .holdLocked →
      ∃ e, t.doors.doors.get n = some e ∧ (e.state = .waiting ∨ e.state = .releasing) ∧ e.override = d.override
        ∧ e.demanded = some s.now ∧ e.cls = some (t.doorClass n e.override))
    ∧ (∀ n d, s.doors.doors.get n = some d → d.override = .holdLocked → t.doors.doors.get n = some d)
    ∧ ∀ k, t.settled k ∧ t.ranked k

/-- Demand stands: every door keeps its override and its demand, and the class of one with demand follows a floor that has
changed (R130, R131). -/
def State.demandKept (s t : State) : Prop :=
  t.doors.general = s.doors.general
    ∧ ∀ n d, s.doors.doors.get n = some d → ∃ e, t.doors.doors.get n = some e ∧ e.override = d.override
      ∧ e.demanded = d.demanded
      ∧ (d.state ≠ .locked → t.floor (doorFloor n) ≠ s.floor (doorFloor n) → e.cls = some (t.doorClass n e.override))

/-- What leaving NORMAL or STANDDOWN for a fire regime does to the doors: general demand begins, but a return before the relock
cancels the hold and leaves the demand that stands (R130, R139). -/
def State.doorsCalled (s t : State) : Prop :=
  (s.regime.regime = .normal ∨ s.doors.relockTimer = none → s.demandBegun t)
    ∧ (s.regime.regime = .standdown → s.doors.relockTimer ≠ none → t.doors.relockTimer = none ∧ s.demandKept t)

/-! ## What they do to the announcements (R144 to R147, R151) -/

/-- Whether a program of the table is in a state. -/
def Prog.inState (st : ProgState) (r : Nat × Prog) : Bool := r.2.state == st

/-- The engine arbiter has nothing left to do: no engine is free while a program waits, and no more programs of a better
class wait than there are ones that yield to them (R147). -/
def AudioUnit.served (u : AudioUnit) : Prop :=
  (∀ n p e, u.progs.get n = some p → p.state = .waiting → 1 ≤ e → e ≤ 4 →
      ∃ m q, u.progs.get m = some q ∧ q.engine = some e)
    ∧ ∀ n p, u.progs.get n = some p → p.state = .playing →
      ((u.progs.rows.filter (Prog.inState .waiting)).filter fun r => r.2.kind.cls < p.kind.cls).length
        ≤ (u.progs.rows.filter (Prog.inState .yielding)).length

/-- Every floor that has changed has the content of its phase and route, and where that is a new content the floor holds a
program of it, or another of its kind for want of a number (FALLBACK), or none (UNPLACED) (R142, R144, R145). -/
def State.speaks (s t : State) : Prop :=
  ∀ f, f < s.fc → t.floor f ≠ s.floor f →
    let new := (t.fireContent t.regime.drill f).1
    let e := t.audio.floor f
    e.content = new
      ∧ ∀ c, new = some c → (s.audio.floor f).content ≠ new →
        (e.prog = none ∧ e.placement = .unplaced)
          ∨ ∃ n p, e.prog = some n ∧ t.audio.progs.get n = some p ∧ p.kind = c.kind
            ∧ (p.phrases = c.phrases ∨ e.placement = .fallback)

/-- Every tenant program is suspended or has been evicted: it has no engine and no floor, its phrase index is 0, and its
passes remaining and its entry stay (R145, R151). -/
def State.tenantsSilenced (s t : State) : Prop :=
  (∀ n q p, s.audio.progs.get n = some q → q.kind = .tenant → q.state ≠ .suspended →
      t.audio.progs.get n = some p → p.kind = .tenant →
        p.state = .suspended ∧ p.engine = none ∧ p.index = 0 ∧ p.phraseTimer = none ∧ p.gapTimer = none
          ∧ p.remaining = q.remaining ∧ ∀ f, (t.audio.floor f).prog ≠ some n)
    ∧ ∀ e ∈ t.audio.tenants, e ∈ s.audio.tenants

/-- Every suspended tenant program waits or plays again from its first phrase with its passes remaining, and every floor of
its entry holds a resumed program that names it (R151). -/
def State.tenantsResumed (s t : State) : Prop :=
  let suspended (n : Nat) := ∃ q, s.audio.progs.get n = some q ∧ q.state = .suspended
  (∀ n q, s.audio.progs.get n = some q → q.kind = .tenant → q.state = .suspended →
      ∃ p, t.audio.progs.get n = some p ∧ (p.state = .waiting ∨ p.state = .playing) ∧ p.index = 0
        ∧ p.remaining = q.remaining)
    ∧ ∀ e ∈ s.audio.tenants, suspended e.prog → ∀ f ∈ e.floors,
      ∃ e' ∈ s.audio.tenants, suspended e'.prog ∧ f ∈ e'.floors ∧ (t.audio.floor f).prog = some e'.prog

/-! ## Canonical tables -/

/-- The canonical form of the BUILDING group's tables. -/
def BuildingGroup.canonical (g : BuildingGroup) : Prop :=
  g.floors.wf = true ∧ g.stairs.wf = true ∧ g.banks.wf = true ∧ g.cars.wf = true ∧ g.sections.wf = true
    ∧ g.doors.wf = true ∧ g.phrases.wf = true ∧ g.templates.wf = true

/-- The canonical form of the INPUT group's table. -/
def InputGroup.canonical (g : InputGroup) : Prop := g.ports.wfDefault PortRec.default = true

/-- The canonical form of the zone table. -/
def MapGroup.canonical (g : MapGroup) : Prop := g.zones.wfDefault Zone.undefined = true

/-- Every table of the state is in its canonical form, the store's among them: rows by strictly rising key, and no
row of a table with defaults equal to its default. So equal contents are equal data. -/
def State.canonical (s : State) : Prop :=
  (s.desc.building.canonical ∧ s.desc.input.canonical ∧ s.desc.map.canonical)
    ∧ (s.store.building.canonical ∧ s.store.input.canonical ∧ s.store.map.canonical)
    ∧ (s.panel.ports.wfDefault PortLive.contact = true ∧ s.panel.points.wfDefault PointRec.fresh = true
      ∧ ∀ r ∈ s.panel.ports.rows, r.2.inputs.wfDefault Input.fresh = true)
    ∧ (s.evac.floors.wfDefault Floor.fresh = true ∧ s.stairs.live.wfDefault StairLive.fresh = true)
    ∧ (s.lifts.banks.wfDefault BankLive.fresh = true ∧ s.lifts.cars.wf = true)
    ∧ (s.doors.doors.wf = true ∧ s.doors.sections.wf = true ∧ s.doors.nodes.wf = true)
    ∧ (s.audio.progs.wf = true ∧ s.audio.floors.wfDefault FloorEntry.fresh = true)

/-- Every point of the point state table is a point 1 to 1023 of a port (R19). -/
def State.pointsSound (s : State) : Prop :=
  ∀ k r, s.panel.points.get k = some r → ∃ p n, 1 ≤ n ∧ n ≤ 1023 ∧ k = pointKey p n

/-! ## Bounds -/

/-- Each report queue holds at most 64 reports, and the service link's holds no AUDIO and no SUPERVISION report
(R163, R164). -/
def State.queuesSound (s : State) : Prop :=
  (∀ l : Link, (s.link l).reports.length ≤ 64)
    ∧ ∀ r ∈ s.links.service.reports, r.report.cls ≠ .audio ∧ r.report.cls ≠ .supervision

/-- Every stair load lies within 0 to 4095 (R94). -/
def State.loadsSound (s : State) : Prop := ∀ x : Stair, (s.stairs.stair x).load ≤ 4095

/-- The figures of a building record lie in their ranges, and its street floor below its FC (R4). -/
def Building.inRange (b : Building) : Prop :=
  (2 ≤ b.fc ∧ b.fc ≤ 48) ∧ b.street < b.fc ∧ b.coreAbove ≤ 3 ∧ b.coreBelow ≤ 2
    ∧ (2 ≤ b.threshold ∧ b.threshold ≤ 16) ∧ (30 ≤ b.holdMax ∧ b.holdMax ≤ 1800)
    ∧ (5 ≤ b.drainInterval ∧ b.drainInterval ≤ 60) ∧ (10 ≤ b.relockHold ∧ b.relockHold ≤ 600)
    ∧ (1 ≤ b.verifyTime ∧ b.verifyTime ≤ 10) ∧ (2 ≤ b.recallMargin ∧ b.recallMargin ≤ 8)
    ∧ (2 ≤ b.travelTime ∧ b.travelTime ≤ 30) ∧ (5 ≤ b.parkConfirm ∧ b.parkConfirm ≤ 60)

/-- The building record in use and the one in the store, where there is one, are in range (R4, R14). -/
def State.buildingSound (s : State) : Prop :=
  (∀ b, s.desc.building.building = some b → b.inRange) ∧ ∀ b, s.store.building.building = some b → b.inRange

/-! ## The range table (R39) -/

/-- A range table as R39 keeps it: at most 256 ranges in order of port and first point, no two sharing a point, and
every point and zone in range. -/
def rangesSound (l : List Range) : Prop :=
  l.length ≤ 256 ∧ l.Pairwise (fun r t => pointKey r.port r.first < pointKey t.port t.first)
    ∧ l.Pairwise (fun r t => r.overlaps t = false)
    ∧ ∀ r ∈ l, 1 ≤ r.first ∧ 1 ≤ r.count ∧ r.first + r.count - 1 ≤ 1023 ∧ r.zone ≤ 127

/-- The range table in use and the one in the store are sound. -/
def State.rangesKept (s : State) : Prop := rangesSound s.desc.map.ranges ∧ rangesSound s.store.map.ranges

/-! ## Incidents and the regime (R52 to R56, R66, R67) -/

/-- The incident list and the regime agree: at most 16 incidents; none open in NORMAL or STANDDOWN and at least one
in ALARM; numbers 1 to 255, no two the same; no two incidents of one zone and first floor; the drill flag only in
ALARM or GENERAL, and then every open incident is the drill's, and no drill incident without the flag. -/
def RegimeUnit.sound (r : RegimeUnit) : Prop :=
  r.incidents.length ≤ 16
    ∧ (r.regime = .normal ∨ r.regime = .standdown → r.incidents = [])
    ∧ (r.regime = .alarm → r.incidents ≠ [])
    ∧ (r.incidents.map (·.number)).Nodup
    ∧ (∀ i ∈ r.incidents, 1 ≤ i.number ∧ i.number ≤ 255) ∧ (1 ≤ r.nextNumber ∧ r.nextNumber ≤ 255)
    ∧ (r.incidents.map fun i => (i.zone, i.first)).Nodup
    ∧ (r.drill = true → r.regime = .alarm ∨ r.regime = .general)
    ∧ (∀ i ∈ r.incidents, i.drill = r.drill)
    ∧ (r.liftsIncluded = true → r.drill = true)

/-! ## The evacuation queue (R73, R74, R80) -/

/-- The evacuation queue and the floor table agree: a floor is queued exactly when its phase is ALERT, and at most
once; no floor is queued outside ALARM; in NORMAL every floor is NORMAL, and in STANDDOWN every floor is
NORMAL or STANDDOWN; a floor that is not in use is NORMAL. -/
def State.queueSound (s : State) : Prop :=
  (s.evac.queue.map (·.floor)).Nodup
    ∧ (∀ f, f ∈ s.evac.queue.map (·.floor) ↔ (s.floor f).phase = .alert)
    ∧ (s.regime.regime ≠ .alarm → s.evac.queue = [])
    ∧ (s.regime.regime = .normal → ∀ f, (s.floor f).phase = .normal)
    ∧ (s.regime.regime = .standdown → ∀ f, (s.floor f).phase = .normal ∨ (s.floor f).phase = .standdown)
    ∧ ∀ f, s.fc ≤ f → (s.floor f).phase = .normal

/-- The phases and the routes agree with the regime, the incidents and the stairs: in ALARM and GENERAL no floor in use is NORMAL
or STANDDOWN, and every floor of an open incident is in EVACUATE or DEFEND (R74); a floor in EVACUATE leaves by its direct
exit or by a route of stairs that serve it and are available, and every other floor's route is empty (R75). -/
def State.routesSound (s : State) : Prop :=
  (s.regime.regime = .alarm ∨ s.regime.regime = .general →
      ∀ f, f < s.fc → (s.floor f).phase ≠ .normal ∧ (s.floor f).phase ≠ .standdown)
    ∧ (∀ i ∈ s.regime.incidents, ∀ f, i.first ≤ f → f < i.first + i.count → f < s.fc →
      (s.floor f).phase = .evacuate ∨ (s.floor f).phase = .defend)
    ∧ (∀ f, (s.floor f).phase = .evacuate → match (s.floor f).route with
      | .empty => False
      | .stairs l => l ≠ [] ∧ ∀ x ∈ l, s.available x = true ∧ s.serves x f = true
      | .direct => s.directExit f = true)
    ∧ ∀ f, (s.floor f).phase ≠ .evacuate → (s.floor f).route = .empty

/-! ## Cars (R8, R66, R110, R113, R114) -/

/-- Every car record of a group names a bank that has a record (R8). -/
def BuildingGroup.carsHaveBanks (g : BuildingGroup) : Prop :=
  ∀ n r, g.cars.get n = some r → (g.banks.get (bankNumber r.bank)).isSome = true

/-- A live car record is consistent: a run exactly in RECALLING, its passes within its budget; a fault cause exactly
in FAULTED; a parked floor exactly in PARKED and SHUTDOWN; a car that awaits its first status is FAULTED with cause LINK
(R110, R114). -/
def CarLive.sound (c : CarLive) : Prop :=
  (c.run.isSome = true ↔ c.state = .recalling) ∧ (∀ r, c.run = some r → r.passes ≤ r.budget)
    ∧ (c.cause.isSome = true ↔ c.state = .faulted)
    ∧ (c.parked.isSome = true ↔ c.state = .parked ∨ c.state = .shutdown)
    ∧ (c.awaiting = true → c.state = .faulted ∧ c.cause = some .link)

/-- The live cars are those of the description, each consistent (R8, R110). -/
def State.carsSound (s : State) : Prop :=
  s.desc.building.carsHaveBanks ∧ s.store.building.carsHaveBanks
    ∧ (∀ n, (s.lifts.cars.get n).isSome = (s.desc.building.cars.get n).isSome)
    ∧ ∀ n c, s.lifts.cars.get n = some c → c.sound

/-- No car is recalled without a recall regime: in NORMAL and STANDDOWN, and in a drill that leaves the lifts out, no car is in
RECALLING or PARKED (R66, R113, R123). -/
def State.recallsSound (s : State) : Prop :=
  s.regime.recalls = false → ∀ n c, s.lifts.cars.get n = some c → c.state ≠ .recalling ∧ c.state ≠ .parked

/-! ## Doors (R9, R126, R127, R130, R132, R139) -/

/-- Every door record of a group names a section that has a record (R9). -/
def BuildingGroup.doorsHaveSections (g : BuildingGroup) : Prop :=
  ∀ n r, g.doors.get n = some r → (g.sections.get r.sec).isSome = true

/-- A live door record is consistent: a class of 0 to 4 and a demand time exactly while it has demand, a grant time exactly in
RELEASING and RELEASED, no demand under HOLD_LOCKED, and demand under FORCE_RELEASED (R126, R130). -/
def DoorLive.sound (d : DoorLive) : Prop :=
  (d.cls.isSome = true ↔ d.state ≠ .locked) ∧ (∀ c, d.cls = some c → c ≤ 4)
    ∧ (d.demanded.isSome = true ↔ d.state ≠ .locked)
    ∧ (d.granted.isSome = true ↔ d.state = .releasing ∨ d.state = .released)
    ∧ (d.override = .holdLocked → d.state = .locked) ∧ (d.override = .forceReleased → d.state ≠ .locked)

/-- A live section record is consistent: its grant set holds each of its doors in RELEASING or RELEASED once and no
other, no more than its effective capacity; its waiting list each of its doors in WAITING once and no other (R127,
R132). -/
def State.sectionSound (s : State) (k : Nat) (x : SectionLive) : Prop :=
  x.grants.Nodup ∧ x.waiting.Nodup ∧ x.grants.length ≤ s.effectiveCapacity k x
    ∧ (∀ n, n ∈ x.grants ↔ s.doorSection n = k
      ∧ ∃ d, s.doors.doors.get n = some d ∧ (d.state = .releasing ∨ d.state = .released))
    ∧ ∀ n, n ∈ x.waiting ↔ s.doorSection n = k ∧ ∃ d, s.doors.doors.get n = some d ∧ d.state = .waiting

/-- The live doors and sections are those of the description, each consistent, and the node of a floor is in use exactly
while a door of the floor is present (R128). -/
def State.doorsSound (s : State) : Prop :=
  s.desc.building.doorsHaveSections ∧ s.store.building.doorsHaveSections
    ∧ (∀ n, (s.doors.doors.get n).isSome = (s.desc.building.doors.get n).isSome)
    ∧ (∀ k, (s.doors.sections.get k).isSome = (s.desc.building.sections.get k).isSome)
    ∧ (∀ f, (s.doors.nodes.get f).isSome = true ↔ s.doorsOfFloor f ≠ [])
    ∧ (∀ n d, s.doors.doors.get n = some d → d.sound)
    ∧ ∀ k x, s.doors.sections.get k = some x → s.sectionSound k x

/-- General demand agrees with the regime and the doors: its flag is set in ALARM and GENERAL and in STANDDOWN until the relock,
whose timer runs in STANDDOWN alone and until the relock is complete; while it is set every door that is not held has
demand, and while it is clear only a forced one has (R71, R130, R139). -/
def State.demandSound (s : State) : Prop :=
  (s.doors.general = true ↔ s.regime.regime = .alarm ∨ s.regime.regime = .general ∨ s.doors.relockTimer.isSome = true)
    ∧ (s.doors.relockTimer.isSome = true → s.regime.regime = .standdown)
    ∧ (s.regime.regime = .standdown → (s.regime.relockComplete = true ↔ s.doors.relockTimer = none))
    ∧ ∀ n d, s.doors.doors.get n = some d →
      (s.doors.general = true → d.override ≠ .holdLocked → d.state ≠ .locked)
        ∧ (s.doors.general = false → d.state ≠ .locked → d.override = .forceReleased)

/-- The demand and the grant of every door lie less than 2^31 seconds back, so that comparisons of them by R160 are those of
one order. -/
def State.doorTimesRecent (s : State) : Prop :=
  ∀ n d, s.doors.doors.get n = some d →
    (∀ x, d.demanded = some x → (s.now - x).toNat < 2 ^ 31) ∧ ∀ x, d.granted = some x → (s.now - x).toNat < 2 ^ 31

/-- Every waiting list stands in order of demand class, then demand time, then door number, and every grant set in order of
grant time (R127). -/
def State.doorListsOrdered (s : State) : Prop :=
  let door (n : Nat) := (s.doors.doors.get n).getD DoorLive.fresh
  let ahead (m n : Nat) (x y : DoorLive) : Prop :=
    x.cls.getD 4 < y.cls.getD 4
      ∨ (x.cls.getD 4 = y.cls.getD 4
        ∧ (later (y.demanded.getD 0) (x.demanded.getD 0) = true ∨ (x.demanded = y.demanded ∧ m < n)))
  ∀ k r, s.doors.sections.get k = some r →
    r.waiting.Pairwise (fun m n => ahead m n (door m) (door n))
      ∧ r.grants.Pairwise fun m n => later ((door m).granted.getD 0) ((door n).granted.getD 0) = false

/-! ## Announcements (R141, R143, R151, R152) -/

/-- A program instance is consistent: an engine of the four exactly in PLAYING and YIELDING (R141, R143). -/
def Prog.sound (p : Prog) : Prop :=
  (p.engine.isSome = true ↔ p.state = .playing ∨ p.state = .yielding) ∧ (∀ e, p.engine = some e → 1 ≤ e ∧ e ≤ 4)

/-- The Announcement Unit is consistent: no notice is left to take; the drill copy is the drill flag; instance numbers 1
to 32; each engine carries at most one instance; every instance a floor holds is in the table; at most 8 tenant entries,
and exactly the TENANT instances have one. -/
def State.audioSound (s : State) : Prop :=
  s.audio.noticed = [] ∧ s.audio.drillCopy = s.regime.drill
    ∧ (∀ n p, s.audio.progs.get n = some p → (1 ≤ n ∧ n ≤ 32) ∧ p.sound)
    ∧ (∀ m n p q e, s.audio.progs.get m = some p → s.audio.progs.get n = some q → p.engine = some e
      → q.engine = some e → m = n)
    ∧ (∀ f n, (s.audio.floor f).prog = some n → (s.audio.progs.get n).isSome = true)
    ∧ (∀ f c, (s.audio.floor f).content = some c → c.kind ≠ .tenant)
    ∧ s.audio.tenants.length ≤ 8 ∧ (s.audio.tenants.map (·.prog)).Nodup
    ∧ ∀ n, n ∈ s.audio.tenants.map (·.prog) ↔ ∃ p, s.audio.progs.get n = some p ∧ p.kind = .tenant

/-- Outside NORMAL every TENANT program is SUSPENDED and no floor holds one (R151). -/
def State.tenantsHeld (s : State) : Prop :=
  s.regime.regime ≠ .normal → ∀ n p, s.audio.progs.get n = some p → p.kind = .tenant →
    p.state = .suspended ∧ ∀ f, (s.audio.floor f).prog ≠ some n

/-! ## What an incident does to the floors and to the regime (R58, R64, R78 to R80) -/

/-- The lowest floor of the core of a floor set (R78). -/
def State.coreLow (s : State) (first : Nat) : Nat := min (first - s.figure (·.coreBelow)) (s.fc - 1)

/-- The highest floor of the core of a floor set (R78). -/
def State.coreHigh (s : State) (first count : Nat) : Nat :=
  min (first + count - 1 + s.figure (·.coreAbove)) (s.fc - 1)

/-- Every floor of the core of a floor set is in EVACUATE or DEFEND with the core flag, and every other floor in use keeps its
core flag (R78). -/
def State.coreSent (s t : State) (first count : Nat) : Prop :=
  ∀ g, g < s.fc →
    (s.coreLow first ≤ g → g ≤ s.coreHigh first count → (t.floor g).sent ∧ (t.floor g).core = true)
      ∧ (g < s.coreLow first ∨ s.coreHigh first count < g → (t.floor g).core = (s.floor g).core)

/-- What core processing of a floor set makes of the other floors in use and of the queue (R79, R80, R83, R89). From NORMAL and
STANDDOWN they are alerted, those above the core ascending and then those below it descending, each with its entry time, its
hold deadline and its hold timer, and only the first of them may have been promoted since. In ALARM they keep their phases
and their places, but for a promotion from the head; a new head has not passed the head test. In GENERAL every one is sent
and none is queued. -/
def State.othersTaken (s t : State) (first count : Nat) : Prop :=
  let below := s.floors.filter fun g => decide (g < s.coreLow first)
  let above := s.floors.filter fun g => decide (s.coreHigh first count < g)
  let order := above ++ below.reverse
  let entry (g : Nat) : QueueEntry :=
    { floor := g, entry := s.now, deadline := s.now + BitVec.ofNat 32 (s.figure (·.holdMax))
      timer := s.clock + s.figure (·.holdMax) * 10 }
  let begins := s.regime.regime = .normal ∨ s.regime.regime = .standdown
  (begins → t.regime.regime = .alarm →
      t.evac.queue <:+ order.map entry
        ∧ ∀ g ∈ order, (t.floor g).sent ∨ ((t.floor g).phase = .alert ∧ entry g ∈ t.evac.queue))
    ∧ (s.regime.regime = .alarm → t.regime.regime = .alarm →
      t.evac.queue
          <:+ s.evac.queue.filter (fun e => decide (e.floor < s.coreLow first ∨ s.coreHigh first count < e.floor))
        ∧ (∀ e ∈ s.evac.queue, e ∈ t.evac.queue ∨ (t.floor e.floor).sent)
        ∧ ∀ g ∈ order, (t.floor g).phase = (s.floor g).phase
          ∨ ((t.floor g).sent ∧ ((s.floor g).sent ∨ ∃ e ∈ s.evac.queue, e.floor = g)))
    ∧ (t.regime.regime = .alarm → begins ∨ t.head ≠ s.head → ∀ g, t.head = some g → ¬ t.passesHeadTest g)
    ∧ (t.regime.regime = .general → t.evac.queue = [] ∧ ∀ g ∈ s.floors, (t.floor g).sent)

/-- What the threshold test leaves that finds the regime `before` (step 7 of R58, step 4 of R64): GENERAL, told with cause
THRESHOLD, exactly when the regime is ALARM and the open live incidents have as many distinct first floors as the general
threshold; else the regime it finds, and nothing told. (Of a full report queue the report may be lost, R163.) -/
def State.thresholdTested (s t : State) (before : Regime) : Prop :=
  let firsts := ((t.regime.incidents.filter fun i => !i.drill).map (·.first)).eraseDups
  let reached := before = .alarm ∧ s.figure (·.threshold) ≤ firsts.length
  let told (r : ReportRecord) := r.report = .regimeChanged .alarm .general .threshold
  (reached → t.regime.regime = .general
      ∧ ((∃ r ∈ (t.link .host).reports, told r ∧ r.time = s.now) ∨ 64 ≤ (t.link .host).reports.length))
    ∧ (¬ reached → t.regime.regime = before
      ∧ ∀ r ∈ (t.link .host).reports, told r → r ∈ (s.link .host).reports)

/-- The number R55 gives an incident where the incidents `others` are open: the first from the next number on, 255 being followed
by 1, that none of them has. -/
def RegimeUnit.numbers (u : RegimeUnit) (others : List Incident) (n : Nat) : Prop :=
  let nth (k : Nat) := (u.nextNumber - 1 + k) % 255 + 1
  ∃ k, k ≤ 16 ∧ n = nth k ∧ (∀ i ∈ others, i.number ≠ n) ∧ ∀ j, j < k → ∃ i ∈ others, i.number = nth j

/-! ## An alarm handed over, and a point's change of condition (R15, R20, R42 to R45, R56 to R59) -/

/-- What the open live incident of an alarm's identity takes from it: one more point, and no clear flag (R56). The point has
the record `put` and names the incident. -/
def State.alarmExtends (s t : State) (p : Port) (n : Nat) (put : PointRec) (i : Incident) : Prop :=
  t.point p n = { put with incident := i.number }
    ∧ s.onlyChanges t [.panel, .regime, .links]
    ∧ t.regime = { s.regime with
        incidents := s.regime.incidents.map fun j =>
          if j.number = i.number then { j with points := j.points + 1, clear := false } else j }

/-- What an alarm does that opens an incident (R55, R58), with what the units make of it (R78 to R80, R101, R109, R113, R119,
R120, R130 to R133, R144, R147, R151). The point has the record `put` and names the incident. -/
def State.alarmOpens (s t : State) (p : Port) (n : Nat) (put : PointRec) (r : Result) : Prop :=
  let kept := s.regime.incidents.filter fun i => !i.drill
  let begins := s.regime.regime = .normal ∨ s.regime.regime = .standdown
  ∃ new : Incident, t.regime.incidents = kept ++ [new] ∧ (∀ i ∈ kept, i.number ≠ new.number)
    ∧ new = { number := new.number, zone := r.zone, kind := r.kind, latched := r.latched
              first := r.first, count := r.count, origin := some (p, n), opened := s.now
              points := 1, clear := false, stale := false, drill := false }
    ∧ t.point p n = { put with incident := new.number }
    ∧ s.regime.numbers kept new.number ∧ t.regime.nextNumber = new.number % 255 + 1
    ∧ t.regime.drill = false ∧ t.regime.liftsIncluded = false
    ∧ s.thresholdTested t (if s.regime.regime = .general then .general else .alarm)
    ∧ (∀ x, r.kind = .stair x → (t.stairs.stair x).compromised = true)
    ∧ (∀ b, r.kind = .shaft b → (t.lifts.bank b).shaft = true)
    ∧ s.coreSent t r.first r.count ∧ (s.queueSound → s.othersTaken t r.first r.count)
    ∧ t.redirected ∧ (begins ∨ s.regime.drill = true → s.autosRun t)
    ∧ (s.doorsSound → (begins → s.doorsCalled t) ∧ (¬ begins → s.demandKept t))
    ∧ (s.audioSound → t.audio.served ∧ s.speaks t ∧ (s.regime.regime = .normal → s.tenantsSilenced t))

/-- An alarm of point `n` of port `p` handed over in the state `s`, the point's record being `put` and `lead` the reports that
stand ahead: not acted on while UNCONFIGURED; else sheltered by isolation, or an extension of the live incident of its
identity, or a new incident, or one that finds the list full (R15, R42 to R45, R56 to R58). -/
def State.alarmHanded (s t : State) (p : Port) (n : Nat) (put : PointRec) (lead : List Report) : Prop :=
  let same (r : Result) (i : Incident) := i.drill = false ∧ i.zone = r.zone ∧ i.first = r.first
  (s.unconfigured = true → t.point p n = put ∧ s.onlyChanges t [.panel, .links]
      ∧ t.links = (s.reportAll (lead ++ [.notActed p n])).links)
    ∧ (s.unconfigured = false → s.regime.sound →
      (∀ z, s.translate p n = .isolated z → t.point p n = put ∧ s.onlyChanges t [.panel, .links]
          ∧ t.links = (s.reportAll (lead ++ [.isolatedAlarm z p n])).links)
        ∧ ∀ r, s.results p n r →
          (∀ i ∈ s.regime.incidents, same r i → s.alarmExtends t p n put i)
            ∧ ((∀ i ∈ s.regime.incidents, ¬ same r i) →
              (s.regime.incidents.length = 16 → t.point p n = put ∧ t.regime.incidents = s.regime.incidents
                  ∧ (s.regime.regime = .alarm ∨ s.regime.regime = .general → t.regime.regime = .general))
                ∧ (s.regime.incidents.length < 16 → s.alarmOpens t p n put r)))

/-- The end of an alarm handed over, the point's record being `put` (R15, R20, R59): the incident it contributed to has one
point fewer, and is clear when none is left. A point that goes to FAULT is reported. -/
def State.alarmOver (s t : State) (p : Port) (n : Nat) (put : PointRec) : Prop :=
  let number := (s.point p n).incident
  (s.unconfigured = true → t.point p n = put ∧ s.onlyChanges t [.panel, .links]
      ∧ t.links = (s.reportAll (if put.condition = .fault then [.pointFault p n] else [])).links)
    ∧ (s.unconfigured = false → s.regime.sound →
      t.point p n = { put with incident := 0 } ∧ s.onlyChanges t [.panel, .regime, .links]
        ∧ t.regime = { s.regime with
            incidents := s.regime.incidents.map fun j =>
              if j.number = number ∧ number ≠ 0 then
                { j with points := j.points - 1, clear := decide (j.points - 1 = 0) } else j })

/-- A point of a port goes to a condition that it was not in (R20). -/
def State.conditionChanges (s t : State) (p : Port) (n : Nat) (new : Condition) (short : Bool) : Prop :=
  let old := s.point p n
  let put : PointRec := { old with condition := new, short := short, changed := s.now }
  (old.condition ≠ .alarm → new = .fault → t.point p n = put ∧ s.onlyChanges t [.panel, .links]
      ∧ t.links = (s.report (.pointFault p n)).links)
    ∧ (old.condition ≠ .alarm → new = .normal → t.point p n = put ∧ s.onlyChanges t [.panel, .links]
      ∧ t.links = (s.report (.pointFaultCleared p n)).links)
    ∧ (new = .alarm →
      s.alarmHanded t p n put (if old.condition = .fault then [.pointFaultCleared p n] else []))
    ∧ (old.condition = .alarm → s.alarmOver t p n put)

/-- Alarms of points that stand in ALARM handed over one after another, each in the state the one before it leaves (R48). -/
def State.alarmsHanded : State → List (Port × Nat) → State → Prop
  | s, [], t => t = s
  | s, x :: rest, t =>
    ∃ u : State, s.alarmHanded u x.1 x.2 (s.point x.1 x.2) [] ∧ s.otherPoints u x.1 x.2
      ∧ u.panel.ports = s.panel.ports ∧ u.alarmsHanded rest t

/-! ## The table of R112 -/

/-- The state a status record gives a car by the table of R112, from the state it finds, its fault flag and its
service mode; `runs` says whether a car that comes back to service starts a run. `none` is left to the run of the car
or its parked floor (R115, R116). -/
def tableState (old : CarState) (fault : Bool) (mode : ServiceMode) (runs : Bool) : Option CarState :=
  match old, fault, mode with
  | .auto, true, _ | .recalling, true, _ | .parked, true, _ | .exempt, true, _ | .faulted, _, _ => some .faulted
  | .shutdown, _, _ => some .shutdown
  | .firefighter, _, .fireKey => some .firefighter
  | .auto, false, .fireKey | .recalling, false, .fireKey | .parked, false, .fireKey | .exempt, false, .fireKey =>
    some .firefighter
  | .firefighter, _, .independent | .firefighter, _, .inspection => some .exempt
  | .auto, false, .independent | .recalling, false, .independent | .parked, false, .independent
  | .exempt, false, .independent | .auto, false, .inspection | .recalling, false, .inspection
  | .parked, false, .inspection | .exempt, false, .inspection => some .exempt
  | .auto, false, .normal => some .auto
  | .firefighter, _, .normal | .exempt, false, .normal => some (if runs then .recalling else .auto)
  | .recalling, false, .normal | .parked, false, .normal => none

/-- A step that is safe: it ends in a next state. -/
def safeStep (s : State) : Prop := ∃ t, step s = .next t

end Sys2Proof.Machine
end

