-- ==== Sys2Proof/Certificates/Slice0/Obligations.lean ====
section
/-! DEFINITION. The statements about the model for its provers, from the numbered rules of spec/. Each states what the
commands it names do, every condition among its premises, and what they leave as it was. -/

section

open Sys2Proof Sys2Proof.Machine

/-! ## Steps, frames and replies -/

/-- The block's counterpart of "a step runs the decoded instruction": a step takes the command at the front of the queue. With no
command waiting (the model's choice, notes/assumptions/1.md and 2.md) a step lets a tenth of a second pass when nothing is
due, carries out the one thing that is due, or any one of several, and then uses up one free choice. -/
def Obligations.StepTakesFront : Prop :=
  (∀ (c : Instr) (rest : List Instr) (s : State),
      step { s with pending := c :: rest } = exec c { s with pending := rest })
    ∧ ∀ s : State, s.pending = [] →
      (s.due = [] → step s = .next { s with clock := s.clock + 1 })
        ∧ (∀ d, s.due = [d] → step s = s.perform d)
        ∧ (2 ≤ s.due.length → ∃ d ∈ s.due, step s = ({ s with choices := s.choices + 1 }).perform d)

/-- Every command ends in a next state, and what it does not concern is as it was: of the fourteen parts of the state
only those `touches` lists for it may differ. No command changes the queue of waiting commands or the free choices. -/
def Obligations.CommandFrames : Prop :=
  ∀ (c : Instr) (s : State), ∃ t, exec c s = .next t ∧ s.onlyChanges t (touches c)

/-- R158, R159, R2, R15: a request is answered on its own link with its station, tag and kind, its effective level, and the number
of reports waiting when the reply is sent; its body holds at most 240 bytes, and the reply of the other link and both
receivers stay as they are. At a level its kind does not meet it is refused LEVEL; while UNCONFIGURED each request that R15
does not list is refused STATE; a body that has not the form of its kind is refused FORMAT. Each refusal changes nothing and
has an empty body. (FLOOR_COMMAND, DOOR_COMMAND and CAR_COMMAND look at the form before UNCONFIGURED, as R86, R121 and R137
say; that the others judge UNCONFIGURED, their regime and their drill flag before the form, where no rule orders the two, is
the model's choice, notes/assumptions/9.md. The SET_ZONE refused LEVEL, and one with a zone and a malformed rest, are in
ZoneLoads: they give the descriptor.) -/
def Obligations.RequestsAnswered : Prop :=
  ∀ (c : Instr) (l : Link) (h : Header) (k : Nat) (s : State),
    sentBy c = some (l, h) → Instr.kind c = some k → s.free l →
      let level := effectiveLevel l h
      let refused (r : Reason) := exec c s = .next (s.replied l h k (.refused r) [])
      let formFirst := 29 ≤ k ∧ k ≤ 31
      (∃ t, exec c s = .next t
        ∧ (∃ v body, t.answered l h k v body ∧ v ≠ .invalid ∧ body.length ≤ 240)
        ∧ (t.link (otherLink l)).reply = (s.link (otherLink l)).reply
        ∧ ∀ m : Link, (t.link m).receiver = (s.link m).receiver ∧ (t.link m).gathered = (s.link m).gathered
          ∧ (t.link m).silence = (s.link m).silence ∧ (t.link m).inHand = (s.link m).inHand
          ∧ (t.link m).held = (s.link m).held)
        ∧ (s.levelNeeded k < level → k ≠ 17 → refused .level)
        ∧ (level ≤ s.levelNeeded k → s.unconfigured = true → needsBuilding k →
          (formFirst → Instr.unreadable c = false) → refused .state)
        ∧ (level ≤ s.levelNeeded k → s.regimeMet k → Instr.unreadable c = true →
          (s.unconfigured = true → needsBuilding k → formFirst) → refused .format)

/-- R2, R158: a refused request changes nothing. The state after it is the state before with the refusal sent. -/
def Obligations.RefusalsChangeNothing : Prop :=
  ∀ (c : Instr) (l : Link) (h : Header) (k : Nat) (s t : State) (r : Reason) (body : List Byte),
    sentBy c = some (l, h) → Instr.kind c = some k → s.free l → exec c s = .next t →
    t.answered l h k (.refused r) body → t = s.replied l h k (.refused r) body

/-- R157: a request that comes while a frame is held on its link is discarded with no reply, so that none is carried out
ahead of the held one; one that comes while another is in hand and none is held becomes the held frame. -/
def Obligations.RequestsHeld : Prop :=
  (∀ (c : Instr) (l : Link) (h : Header) (s : State), sentBy c = some (l, h) →
      ((s.link l).held ≠ none → exec c s = .next s)
        ∧ ((s.link l).held = none → (s.link l).inHand ≠ none →
          exec c s = .next (s.setLink l { s.link l with held := some c })))
    ∧ ∀ (l : Link) (h : Header) (tag kind : Nat) (s : State),
        ((s.link l).held ≠ none →
            exec (.invalidKind l h kind) s = .next s ∧ exec (.badClaimedLevel l h.station tag kind) s = .next s)
          ∧ ((s.link l).held = none → (s.link l).inHand ≠ none →
            exec (.invalidKind l h kind) s
                = .next (s.setLink l { s.link l with held := some (.invalidKind l h kind) })
              ∧ exec (.badClaimedLevel l h.station tag kind) s
                = .next (s.setLink l { s.link l with held := some (.badClaimedLevel l h.station tag kind) }))

/-- R158, R159: a kind that names no request is answered INVALID, and a claimed level other than 1, 2 or 3 is refused FORMAT,
each with an empty body at the ceiling of the link (2 on the host link, 1 on the service link). Nothing else changes. (That a
SET_ZONE refused for its claimed level has an empty body too, though R38 gives a refused one the descriptor, is the model's
choice, notes/assumptions/10.md.) -/
def Obligations.LinkRefusals : Prop :=
  ∀ (l : Link) (h : Header) (tag kind station : Nat) (s : State), s.free l →
    exec (.invalidKind l h kind) s
        = .next (s.setLink l { s.link l with
            reply := some { station := h.station, level := (match l with | .host => 2 | .service => 1), tag := h.tag
                            kind := kind, verdict := .invalid, waiting := (s.link l).reports.length, body := [] } })
      ∧ exec (.badClaimedLevel l station tag kind) s
        = .next (s.setLink l { s.link l with
            reply := some { station := station, level := (match l with | .host => 2 | .service => 1), tag := tag
                            kind := kind, verdict := .refused .format, waiting := (s.link l).reports.length
                            body := [] } })

/-! ## The receiver -/

/-- R156, R157: what each event of a link receiver leaves of the link; everything else of the state stays. -/
def Obligations.ReceiverEvents : Prop :=
  ∀ (l : Link) (b : Byte) (w : StoreWrite) (s : State),
    let x := s.link l
    let hunted : LinkLive := { x with receiver := .hunting, gathered := [], silence := none }
    exec (.frameCrcDiscard l) s = .next (s.setLink l hunted)
      ∧ (x.held ≠ none → exec (.frameHeldDiscard l) s = .next (s.setLink l hunted))
      ∧ (x.inHand = none →
          exec (.heldFrameTaken l) s = .next (s.setLink l { x with inHand := x.held, held := none }))
      ∧ (x.inHand ≠ none → exec (.heldFrameTaken l) s = .next s)
      ∧ (x.receiver = .gathering → exec (.lineBreak l) s = .next (s.setLink l hunted))
      ∧ (x.receiver = .hunting → exec (.lineBreak l) s = .next s ∧ exec (.receiverSilenceExpiry l) s = .next s)
      ∧ (x.receiver = .gathering → x.silence ≠ none →
          exec (.receiverSilenceExpiry l) s = .next (s.setLink l hunted))
      ∧ (x.receiver = .hunting → b ≠ 0xA5#8 → exec (.byteTaken l b w) s = .next s)
      ∧ (x.receiver = .hunting → b = 0xA5#8 →
          exec (.byteTaken l b w) s = .next (s.setLink l
            { x with receiver := .gathering, gathered := [], silence := some (s.clock + 20) }))
      ∧ (x.receiver = .gathering → x.gathered = [] → b.toNat < 3 ∨ 243 < b.toNat →
          exec (.byteTaken l b w) s = .next (s.setLink l hunted))
      ∧ (x.receiver = .gathering → x.gathered = [] → 3 ≤ b.toNat ∧ b.toNat ≤ 243 →
          exec (.byteTaken l b w) s = .next (s.setLink l
            { x with gathered := [b], silence := some (s.clock + 20) }))
      ∧ ∀ n rest, x.receiver = .gathering → x.gathered = n :: rest → 3 ≤ n.toNat ∧ n.toNat ≤ 243 →
          (rest.length + 2 ≠ n.toNat + 3 → exec (.byteTaken l b w) s = .next (s.setLink l
              { x with gathered := x.gathered ++ [b], silence := some (s.clock + 20) }))
            ∧ (rest.length + 2 = n.toNat + 3 →
              b2 (crc ((x.gathered ++ [b]).take (n.toNat + 1))).toNat ≠ (x.gathered ++ [b]).drop (n.toNat + 1) →
              exec (.byteTaken l b w) s = .next (s.setLink l hunted))

/-- R156, R157, R158, R166 and Figures 10-3 and 10-6: the bytes of a good frame, taken one after another from HUNTING, bring
exactly one command. The frame of a well-formed request brings that request; and every frame with 3 to 243 counted bytes
brings one: a claimed level of 0 the refused frame, a kind that names no request the invalid one, and a body that has not the
form of its kind a request with no readable body. With a frame held on the link it is discarded; else it becomes the request in
hand, or the held frame where one is in hand. The receiver is HUNTING again, and nothing else changes. (The layouts as in
RequestRoundTrip; that the request in hand is then carried out by the machine's next step is notes/assumptions/7.md.) -/
def Obligations.FrameBringsRequest : Prop :=
  ∀ (l : Link) (w : StoreWrite) (s : State), (s.link l).receiver = .hunting →
    let x : LinkLive := { s.link l with receiver := .hunting, gathered := [], silence := none }
    let brings (bytes : List Byte) (c : Instr) :=
      (x.held ≠ none → takeBytes l w (frame bytes) s = .next (s.setLink l x))
        ∧ (x.held = none → x.inHand = none →
            takeBytes l w (frame bytes) s = .next (s.setLink l { x with inHand := some c }))
        ∧ (x.held = none → x.inHand ≠ none →
            takeBytes l w (frame bytes) s = .next (s.setLink l { x with held := some c }))
    (∀ (c : Instr) (h : Header) (k : Nat) (body : List Byte), c.wf = true → Instr.request c = some (l, h, body) →
        Instr.kind c = some k → (∀ v, Instr.storeWrite c = some v → v = w) → body.length ≤ 240 →
          brings (requestBytes h k body) c)
      ∧ ∀ (stationLevel tag kind : Byte) (body : List Byte), body.length ≤ 240 →
        ∃ c, frameCommand l w stationLevel.toNat tag.toNat kind.toNat body c
          ∧ brings (stationLevel :: tag :: kind :: body) c

/-- R158, R166, Figures 10-2, 10-3 and 10-6: reading the bytes of a well-formed request gives the request back, with every operand
at every value its field admits; and reading any three bytes and a body gives a command: the refused frame for a claimed level
of 0, the invalid one for a kind that names no request, and else a request of the kind and header, with no readable body only
where no well-formed request is spelled so. (Where R166 leaves a layout open, it is the model's choice,
notes/assumptions/10.md and 11.md.) -/
def Obligations.RequestRoundTrip : Prop :=
  ∀ (l : Link) (w : StoreWrite),
    (∀ (c : Instr) (h : Header) (k : Nat) (body : List Byte), c.wf = true → Instr.request c = some (l, h, body) →
        Instr.kind c = some k → (∀ v, Instr.storeWrite c = some v → v = w) →
          parseRequest l w (requestBytes h k body) = some c)
      ∧ ∀ (stationLevel tag kind : Byte) (body : List Byte),
        ∃ c, parseRequest l w (stationLevel :: tag :: kind :: body) = some c
          ∧ frameCommand l w stationLevel.toNat tag.toNat kind.toNat body c

/-! ## Report queues -/

/-- R163: each command only puts reports at the tails of the queues, in one order for both, each with the present seconds
count; a queue keeps the last 64. The service link gets exactly those that are not AUDIO and not SUPERVISION. Only
COLD_START and the fetches take reports away otherwise. -/
def Obligations.ReportPlacement : Prop :=
  ∀ (c : Instr) (s t : State), s.queuesSound → exec c s = .next t →
    (∀ a b i m, c ≠ .coldStart a b i m) → (∀ l h, c ≠ .fetchReports l h (some ())) →
      ∃ new : List ReportRecord, (∀ r ∈ new, r.time = s.now)
        ∧ t.links.host.reports = (s.links.host.reports ++ new).drop (s.links.host.reports.length + new.length - 64)
        ∧ let sent := new.filter fun r => r.report.cls ≠ .audio && r.report.cls ≠ .supervision
          t.links.service.reports
            = (s.links.service.reports ++ sent).drop (s.links.service.reports.length + sent.length - 64)

/-- R164, R165, R160: a report placed in a queue of 64 displaces the oldest, which is discarded, and sets that queue's OVERFLOW flag,
and the other queue is as its own count leaves it; a report placed in a shorter queue leaves the flag; the flag stays
set over every command but a fetch on that link and a cold start; the fetch shows it and clears it; every STATUS reply on
the link shows it in its eighth byte. (That the flag is a byte of its own in both bodies is the model's choice,
notes/assumptions/10.md.) -/
def Obligations.OverflowFlag : Prop :=
  (∀ (u : LinkUnit) (r : ReportRecord),
      (u.host.reports.length = 64 →
          (u.place r).host = { u.host with reports := u.host.reports.drop 1 ++ [r], overflow := true })
        ∧ (u.host.reports.length < 64 → (u.place r).host = { u.host with reports := u.host.reports ++ [r] })
        ∧ (r.report.cls = .audio ∨ r.report.cls = .supervision → (u.place r).service = u.service)
        ∧ (r.report.cls ≠ .audio → r.report.cls ≠ .supervision →
          (u.service.reports.length = 64 → (u.place r).service
              = { u.service with reports := u.service.reports.drop 1 ++ [r], overflow := true })
            ∧ (u.service.reports.length < 64 → (u.place r).service
              = { u.service with reports := u.service.reports ++ [r] })))
    ∧ (∀ (c : Instr) (l : Link) (s t : State), (s.link l).overflow = true → exec c s = .next t →
        (∀ a b i m, c ≠ .coldStart a b i m) → (∀ h, c ≠ .fetchReports l h (some ())) → (t.link l).overflow = true)
    ∧ (∀ (l : Link) (h : Header) (s : State), s.free l →
        ∃ t, exec (.fetchReports l h (some ())) s = .next t ∧ (t.link l).overflow = false
          ∧ (t.link (otherLink l)) = s.link (otherLink l)
          ∧ ((t.link l).reply.map fun r => r.body.take 1) = some [if (s.link l).overflow then 1 else 0])
    ∧ ∀ (l : Link) (h : Header) (s : State), s.free l →
        ∃ t, exec (.status l h (some ())) s = .next t ∧ (t.link l).overflow = (s.link l).overflow
          ∧ ((t.link l).reply.map fun r => (r.body.drop 7).take 1) = some [if (s.link l).overflow then 1 else 0]

/-- R165: a fetch removes up to 8 reports from the head of its own link's queue and returns them oldest first, after the
OVERFLOW flag and their number; it clears the flag; the waiting count is what is left. In every state, whatever the
regime. Nothing else changes. (Where R166 leaves the layout of a report's contents open, its bytes are the model's choice,
notes/assumptions/10.md.) -/
def Obligations.FetchReturnsOldest : Prop :=
  ∀ (l : Link) (h : Header) (s : State), s.free l →
    let q := (s.link l).reports
    exec (.fetchReports l h (some ())) s
      = .next (s.setLink l { s.link l with
          reports := q.drop 8
          overflow := false
          reply := some (replyTo l h 2 (.done false false) (q.drop 8).length
            ((if (s.link l).overflow then 1#8 else 0#8) :: BitVec.ofNat 8 (min 8 q.length)
              :: ((q.take 8).map (·.bytes)).flatten)) })

/-! ## Looking -/

/-- R160: STATUS gives the regime, the drill flag, the numbers of incidents and of queued floors, the fallback indication,
UNCONFIGURED, STORE FAULT (set while any group is UNKEPT), the OVERFLOW flag of its own link, and the seconds count. It
changes nothing. (That each flag is a byte of its own is the model's choice, notes/assumptions/10.md.) -/
def Obligations.StatusReply : Prop :=
  ∀ (l : Link) (h : Header) (s : State), s.free l →
    exec (.status l h (some ())) s
        = .next (s.replied l h 1 (.done false false)
            (b1 (match s.regime.regime with | .normal => 0 | .alarm => 1 | .general => 2 | .standdown => 3)
              ++ bflag s.regime.drill ++ b1 s.regime.incidents.length ++ b1 s.evac.queue.length
              ++ bflag s.desc.fallback ++ bflag s.desc.building.building.isNone
              ++ bflag (s.desc.keepBuilding = .unkept || s.desc.keepInput = .unkept || s.desc.keepMap = .unkept)
              ++ bflag (s.link l).overflow ++ b4 (BitVec.ofNat 32 (s.clock / 10))))
      ∧ exec (.status l h none) s = .next (s.replied l h 1 (.refused .format) [])

/-- R161 with R34, R50, R72, R93, R108, R125, R140 and R155: each QUERY is answered with the items its rule gives, in the order it
gives them, where what it names is there, and is refused UNKNOWN where it is not. Content past 240 bytes is cut at the last
whole item that fits (cutBody). It changes nothing. Every item is spelled out here: a field of one, two or four bytes (b1,
b2, b4), a flag, an optional field that is all ones when absent, an enumeration by its position in the list of its rule.
(Where R166 leaves the layout of an item open, the bytes are the model's choice, notes/assumptions/10.md: the flag bytes, the
availability of a stair and the demand of a door among them, the route byte, the kind codes, the presence byte of a latched
copy, the one byte of a redirect count, the lists of listeners, switches and floors with their counts, the part of a second
counted whole in the time left on a timer, the fields left out for a zone of kind NONE, the place of each item among the rest, and
what is an item of a reply that is cut. That QUERY bank of another number and QUERY point of another port are UNKNOWN is the model's
reading, 46.md.) -/
def Obligations.QueryReplies : Prop :=
  ∀ (l : Link) (h : Header) (n : Nat) (d : DoorRef) (x : PointRef) (s : State), s.free l →
    let gives (body : List (List Byte)) := Host.Outcome.next (s.replied l h 3 (.done false false) (cutBody body))
    let unknown := Host.Outcome.next (s.replied l h 3 (.refused .unknown) [])
    let left (due : Nat) := (due - s.clock + 9) / 10
    let count := BitVec.ofNat 32 (s.clock / 10)
    let untilCount (time : Seconds) := if later time count then (time - count).toNat else 0
    let bit (y : Stair) : Nat := match y with | .a => 1 | .b => 2 | .c => 4 | .d => 8
    let listed (items : List (List Byte)) := b1 items.length :: items
    let carState (c : CarLive) := posIn [.auto, .recalling, .parked, .firefighter, .shutdown, .faulted, .exempt] c.state
    let kindCode (k : IncidentKind) : Nat := match k with | .floor => 0 | .manual => 1 | .stair _ => 2 | .shaft _ => 3
    let kindOf (k : IncidentKind) : List Byte :=
      match k with | .floor => [] | .manual => [] | .stair y => b1 (stairNumber y) | .shaft b => b1 (bankNumber b)
    let progState (p : Prog) := posIn [.waiting, .playing, .yielding, .gap, .suspended] p.state
    let progKind (p : Prog) := posIn [.evacuate, .defend, .alert, .allclear, .tenant] p.kind
    let progClass (p : Prog) : Nat :=
      match p.kind with | .evacuate => 0 | .defend => 0 | .alert => 1 | .allclear => 2 | .tenant => 3
    exec (.queryFloor l h (some n)) s
        = (if n < s.fc then
            let y := s.floor n
            let e := s.evac.queue.find? fun e => e.floor == n
            let share (st : Stair) := opt2 ((y.shares.find? fun z => z.1 == st).map (·.2))
            gives
              [ b1 (posIn [.normal, .alert, .evacuate, .defend, .standdown] y.phase), bflag y.core
              , b1 (match y.route with | .empty => 0 | .stairs r => (r.map bit).sum | .direct => 16)
              , share .a ++ share .b ++ share .c ++ share .d, b2 y.occupancy
              , optTime (e.map (·.entry)), optTime (e.map (·.deadline)), b4 y.phaseTime
              , opt1 ((s.evac.queue.findIdx? fun e => e.floor == n).map (· + 1)), opt2 (e.map fun e => untilCount e.deadline)
              , bflag (s.directExit n), b1 ((s.candidates n).map bit).sum ]
          else unknown)
      ∧ exec (.queryStair l h (some n)) s
        = (match stairOf n with
          | some y => (match s.stairRec y with
            | some r =>
              let live := s.stairs.stair y
              let routed := (List.range s.fc).filter fun f => (s.floor f).phase == .evacuate
                && (match (s.floor f).route with | .stairs z => z.contains y | .empty => false | .direct => false)
              gives
                [ b1 r.low, b1 r.high, b1 r.weight, b2 r.capacity, b1 r.drain, b2 r.phrase
                , b1 (if r.inUse then 0 else 1), b2 live.load, bflag live.saturated, bflag live.compromised
                , bflag (r.inUse && !live.compromised), b2 (clearTime live.load r.drain (s.figure (·.drainInterval)))
                , opt1 (s.stairs.drainTimer.map left), b1 routed.length ]
            | none => unknown)
          | none => unknown)
      ∧ exec (.queryCar l h (some n)) s
        = (match s.desc.building.cars.get n, s.lifts.cars.get n with
          | some r, some y => gives
              ([ b1 (bankNumber r.bank), b1 r.address, b1 (carState y)
               , opt1 (y.cause.map (posIn [.equipCheck, .link, .controller, .doors])), bflag y.awaiting
               , opt1 y.position, opt1 (y.motion.map (posIn [.up, .down, .stopped]))
               , opt1 (y.doors.map (posIn [.opened, .closed]))
               , opt1 (y.mode.map (posIn [.normal, .independent, .inspection, .fireKey]))
               , bflag y.outOfRange, opt1 y.parked ]
                ++ match y.run with
                  | some r =>
                    [ b1 r.target, b1 r.budget, b1 r.passes, b1 r.redirects, b4 r.start
                    , opt2 (r.travelTimer.map left), opt1 (r.parkTimer.map left) ]
                  | none => [])
          | _, _ => unknown)
      ∧ exec (.queryBank l h (some n)) s
        = (match bankOf n with
          | some y =>
            let live := s.lifts.bank y
            let cars := (s.bankCars y).map fun k => b1 k ++ opt1 ((s.lifts.cars.get k).map carState)
            gives (match s.bankRec y with
              | some r =>
                [ b1 r.p, b1 r.q, b1 r.low, b1 r.high, bflag live.pBarred, bflag live.qBarred, bflag live.bothReported
                , bflag live.shaft, b1 (if live.pBarred then r.q else r.p) ] ++ listed cars
              | none => [bflag live.shaft])
          | none => unknown)
      ∧ exec (.queryDoor l h (some d)) s
        = (match s.doorOf d with
          | some k => (match s.desc.building.doors.get k, s.doors.doors.get k with
            | some r, some y =>
              let waiting := match s.doors.sections.get r.sec with | some z => z.waiting | none => []
              gives
                [ b1 r.sec, bflag r.reentry, b1 (doorFloor k), b1 k
                , b1 (posIn [.locked, .waiting, .releasing, .released, .stuck] y.state)
                , b1 (posIn [.none, .holdLocked, .forceReleased] y.override), bflag (y.state != .locked), opt1 y.cls
                , optTime y.demanded, optTime y.granted, bflag y.retryUsed
                , b1 (posIn [.locked, .unlocked, .unknown] y.feedback)
                , b1 (match y.verify with | none => 0 | some (.release, _) => 1 | some (.lock, _) => 2)
                , opt1 (y.verify.map fun v => left v.2), opt1 ((waiting.findIdx? fun m => m == k).map (· + 1)) ]
            | _, _ => unknown)
          | none => unknown)
      ∧ exec (.querySection l h (some n)) s
        = (match s.desc.building.sections.get n, s.doors.sections.get n with
          | some k, some y =>
            let door (time : DoorLive → Option Seconds) (m : Nat) :=
              b1 m ++ opt1 ((s.doors.doors.get m).bind (·.cls)) ++ optTime ((s.doors.doors.get m).bind time)
            let stuck := s.doors.doors.rows.filter fun r => r.2.state == .stuck && s.doorSection r.1 == n
            gives ([b1 k, b1 (if y.ok then 0 else 1), b1 (if y.ok then k else 0)]
              ++ listed (y.grants.map (door (·.granted))) ++ listed (y.waiting.map (door (·.demanded)))
              ++ [b1 stuck.length, opt2 (s.doors.relockTimer.map left)])
          | _, _ => unknown)
      ∧ exec (.queryZone l h (some n)) s
        = (if 1 ≤ n ∧ n ≤ 127 then
            let z := s.zone n
            gives ((match z.area with
                | none => [b1 0]
                | some a => [b1 (kindCode a.kind + 1), b1 a.base, b1 a.span, b1 a.ppf, b2 a.limit, kindOf a.kind])
              ++ [ b1 z.lock, bflag z.isolated, b2 z.revision.toNat
                 , b2 (s.desc.map.ranges.filter fun r => r.zone == n).length, b2 (s.zoneAlarms n).length ])
          else unknown)
      ∧ exec (.queryRange l h (some x)) s
        = (match portOf x.port with
          | some p => if 1 ≤ x.point ∧ x.point ≤ 1023 then
              gives ((match s.rangeOf p x.point with
                  | some r => [b1 1, b1 (portNumber r.port) ++ b2 r.first ++ b2 r.count ++ b1 r.zone]
                  | none => [b1 0])
                ++ match s.translate p x.point with
                  | .located r => [b1 0, b1 r.first, b2 r.count, b1 r.zone]
                  | .isolated _ => [b1 1]
                  | .unlocated why _ => [ b1 2, b1 (posIn [.noRange, .nullZone, .undefined, .limit, .span] why)
                                        , opt1 ((s.portRec p).range.map (·.1)) ++ opt1 ((s.portRec p).range.map (·.2)) ])
            else unknown
          | none => unknown)
      ∧ exec (.queryIncident l h (some n)) s
        = (if n = 0 then
            gives (listed (s.regime.incidents.map fun i =>
              b1 i.number ++ b1 i.zone ++ b1 i.first ++ b2 i.points ++ bflag i.clear ++ bflag i.stale ++ bflag i.drill))
          else match s.regime.find n with
            | some i => gives ([b1 i.number, b1 i.zone, b1 (kindCode i.kind)]
                ++ (match i.latched with
                  | some c => [ b1 1, b1 (kindCode c.kind + 1), b1 c.base, b1 c.span, b1 c.ppf, kindOf c.kind
                              , b2 c.revision.toNat ]
                  | none => [b1 0])
                ++ [ b1 i.first, b2 i.count, opt1 (i.origin.map fun y => portNumber y.1) ++ opt2 (i.origin.map (·.2))
                   , b4 i.opened, b2 i.points, bflag i.clear, bflag i.stale, bflag i.drill ])
            | none => unknown)
      ∧ exec (.queryInstance l h (some n)) s
        = (if n = 0 then
            let rows := s.audio.floors.rows
            let closed := (List.range 48).filterMap fun f => (s.audio.zoneSwitch f).map fun e => (f, e)
            gives (listed (s.audio.progs.rows.map fun r =>
                  b1 r.1 ++ b1 (progKind r.2) ++ b1 (progState r.2) ++ opt1 r.2.engine)
              ++ ([1, 2, 3, 4].map fun e => opt1 ((s.audio.engineProg e).map (·.1)))
              ++ listed (closed.map fun y => b1 y.1 ++ b1 y.2)
              ++ listed ((rows.filter fun r => r.2.placement != .normal).map fun r =>
                  b1 r.1 ++ b1 (posIn [.normal, .fallback, .unplaced] r.2.placement))
              ++ listed ((rows.filter fun r => r.2.fault).map fun r => b1 r.1))
          else match s.audio.progs.get n with
            | some p => gives ([b1 n, b1 (progKind p), b1 (progClass p)] ++ listed (p.phrases.map b2)
                ++ [b1 p.times, opt1 p.remaining, b1 p.index, b1 p.gap]
                ++ listed ((s.audio.listeners n).map fun f => b1 f ++ b1 (if (s.audio.floor f).connected then 0 else 1))
                ++ [ b1 (progState p), opt1 p.engine, bflag p.started, bflag p.expiring, b4 p.created, optTime p.start ]
                ++ match s.audio.entryOf n with
                  | some e => [b1 e.station] ++ listed (e.floors.map b1) ++ listed (e.phrases.map b2)
                      ++ [b1 e.times, b1 e.gap, opt2 e.expiry, opt2 (e.timer.map left)]
                  | none => [])
            | none => unknown)
      ∧ exec (.queryPort l h (some n)) s
        = (match portOf n with
          | some p =>
            let y := s.port p
            gives
              [ b1 (posIn [.contact, .serial] (s.portRec p).mode)
              , b1 (posIn [.starting, .supervised, .unsupervised, .resetting] y.state), b1 y.missed
              , bflag y.resync.isSome, opt2 (y.resync.map fun r => r.named.length), opt1 (y.resetTimer.map left)
              , b2 (s.panel.portPoints p (· == .alarm)).length, b2 (s.panel.portPoints p (· == .fault)).length ]
          | none => unknown)
      ∧ exec (.queryPoint l h (some x)) s
        = (match portOf x.port with
          | some p =>
            if 1 ≤ x.point ∧ x.point ≤ (if s.serial p then 1023 else 32) then
              let y := s.point p x.point
              let i := (s.port p).input x.point
              let cls (c : LineClass) := posIn [.normal, .alarm, .opened, .shorted] c
              gives ([b1 (posIn [.normal, .alarm, .fault] y.condition), bflag y.short, b1 y.incident, b4 y.changed]
                ++ if s.serial p then [] else [b1 (cls i.held), opt1 (i.candidate.map fun c => cls c.cls)])
            else unknown
          | none => unknown)

/-- R161: SCAN_FLOORS gives the number of matched floors and the floors ascending. EQUAL matches the phase named; AT_LEAST and
AT_MOST go by the order NORMAL, ALERT, EVACUATE, DEFEND, in which STANDDOWN has no place. It changes nothing. -/
def Obligations.ScanMatches : Prop :=
  ∀ (l : Link) (h : Header) (x : Scan) (s : State), s.free l → s.fc ≤ 48 →
    ∃ fs : List Nat,
      exec (.scanFloors l h (some x)) s
          = .next (s.replied l h 4 (.done false false) (b1 fs.length ++ fs.flatMap b1))
        ∧ fs.Pairwise (· < ·)
        ∧ ∀ f, f ∈ fs ↔ f < s.fc ∧
          match x.comparison with
          | .equal => (s.floor f).phase = x.phase
          | .atLeast => x.phase ≠ .standdown ∧ (s.floor f).phase ≠ .standdown
            ∧ x.phase.ctorIdx ≤ (s.floor f).phase.ctorIdx
          | .atMost => x.phase ≠ .standdown ∧ (s.floor f).phase ≠ .standdown
            ∧ (s.floor f).phase.ctorIdx ≤ x.phase.ctorIdx

/-! ## Occupancy -/

/-- R162 with R92: the value, or the live occupancy with the delta added, is brought into 0 to 999; CLAMPED says that a clamp
acted; the reply gives the floor and its live occupancy. While UNCONFIGURED both are refused STATE, and a floor not in
use is UNKNOWN. -/
def Obligations.OccupancyRequests : Prop :=
  ∀ (l : Link) (h : Header) (f v : Nat) (d : Int) (s : State), s.free l → s.canonical →
    (s.unconfigured = true →
        exec (.setOccupancy l h (some ⟨f, v⟩)) s = .next (s.replied l h 5 (.refused .state) [])
          ∧ exec (.adjustOccupancy l h (some ⟨f, d⟩)) s = .next (s.replied l h 6 (.refused .state) []))
      ∧ (s.unconfigured = false → s.fc ≤ f →
        exec (.setOccupancy l h (some ⟨f, v⟩)) s = .next (s.replied l h 5 (.refused .unknown) [])
          ∧ exec (.adjustOccupancy l h (some ⟨f, d⟩)) s = .next (s.replied l h 6 (.refused .unknown) []))
      ∧ (s.unconfigured = false → f < s.fc →
        (∃ t, exec (.setOccupancy l h (some ⟨f, v⟩)) s = .next t
            ∧ t.answered l h 5 (.done (decide (999 < v)) false) (b1 f ++ b2 (min 999 v))
            ∧ s.occupied t f (min 999 v))
          ∧ ∃ t, exec (.adjustOccupancy l h (some ⟨f, d⟩)) s = .next t
            ∧ let e := max (-999) (min 999 d)
              let sum := ((s.floor f).occupancy : Int) + e
              let v := (max 0 (min 999 sum)).toNat
              t.answered l h 6 (.done (decide (e ≠ d ∨ sum < 0 ∨ 999 < sum)) false) (b1 f ++ b2 v)
                ∧ s.occupied t f v)

/-! ## Cold start and the store -/

/-- R14, R18, R19, R25, R52, R73, R80, R94, R109 to R111, R126 to R129, R141, R156, R163: a cold start reads the three groups,
gives every live record its cold-start value over the description it has read, queues the reports of the reading with time
0, sends LOCK to every door, and polls every SERIAL port. The queue of waiting commands, the free choices and the store
stay. (What the store answers is given with the command, notes/assumptions/5.md, and the log of orders starts afresh with it,
5.md and 29.md; a car present at cold start is sent no HOLD, 41.md; that OVERFLOW is clear, no request in hand, no frame held and
no relock hold running is the model's reading, 49.md; that the LOCKs of the doors stand in the log of orders ahead
of the polls, and in ascending door number, which no rule orders, is the model's choice, 24.md and 47.md.) -/
def Obligations.ColdStart : Prop :=
  ∀ (answers building input map : Bool) (s : State), s.canonical →
    ∃ t, exec (.coldStart answers building input map) s = .next t
      ∧ s.onlyChanges t [.clock, .orders, .desc, .panel, .regime, .evac, .stairs, .lifts, .doors, .audio, .links]
      ∧ t.clock = 0
      ∧ t.desc.building = (if answers = true ∧ building = true then s.store.building else BuildingGroup.blank)
      ∧ t.desc.input = (if answers = true ∧ input = true then s.store.input else InputGroup.blank)
      ∧ t.desc.map = (if answers = true ∧ map = true then s.store.map else MapGroup.blank)
      ∧ t.desc.keepBuilding = (if answers = false then .unkept else if building then .kept else .defaulted)
      ∧ t.desc.keepInput = (if answers = false then .unkept else if input then .kept else .defaulted)
      ∧ t.desc.keepMap = (if answers = false then .unkept else if map then .kept else .defaulted)
      ∧ t.desc.fallback = !(answers && map)
      ∧ t.regime = { regime := .normal, drill := false, liftsIncluded := false, relockComplete := false, incidents := []
                     nextNumber := 1 }
      ∧ t.evac.queue = []
      ∧ (∀ f, t.floor f
        = { phase := .normal, core := false, route := .empty, shares := [], phaseTime := 0
            occupancy := match t.desc.building.floors.get f with | some r => r.occupancy | none => 0 })
      ∧ (∀ x, t.stairs.stair x = { load := 0, saturated := false, compromised := false })
      ∧ t.stairs.drainTimer = t.desc.building.building.map (fun b => b.drainInterval * 10)
      ∧ (∀ b, t.lifts.bank b = { pBarred := false, qBarred := false, bothReported := false, shaft := false })
      ∧ (∀ n, t.lifts.cars.get n = (t.desc.building.cars.get n).map fun _ =>
        { state := .faulted, cause := some .link, awaiting := true, position := none, reported := none
          motion := none, doors := none, mode := none, outOfRange := false, parked := none, run := none
          silence := some 50, holdAgain := false })
      ∧ (∀ n, (t.doors.doors.get n) = (t.desc.building.doors.get n).map fun _ =>
        { state := .locked, override := .none, cls := none, demanded := none, granted := none, retryUsed := false
          feedback := .unknown, verify := some (.lock, t.figure (·.verifyTime) * 10) })
      ∧ (∀ k, t.doors.sections.get k = (t.desc.building.sections.get k).map fun _ =>
        { ok := false, answered := false, grants := [], waiting := [], silence := some 50 })
      ∧ (∀ f, t.doors.nodes.get f = if t.doorsOfFloor f = [] then none else some { silence := some 50, silent := false })
      ∧ t.doors.general = false ∧ t.doors.relockTimer = none
      ∧ t.audio.progs.rows = [] ∧ (∀ f, t.audio.floor f
        = { content := none, prog := none, connected := false, placement := .normal, fault := false })
      ∧ t.audio.tenants = [] ∧ t.audio.drillCopy = false ∧ t.audio.noticed = []
      ∧ t.orders = t.desc.building.doors.keys.map .lock
        ++ ([.p1, .p2, .p3, .p4].filter fun p => (t.portRec p).mode == .serial).map .poll
      ∧ (∀ p n, t.point p n = { condition := .normal, short := false, incident := 0, changed := 0 })
      ∧ (∀ p, (t.portRec p).mode = .serial → t.port p
        = { state := .starting, missed := 0, pollTimer := some ((t.portRec p).supervision * 10)
            answerTimer := some 10, resync := none, resetTimer := none, inputs := .empty })
      ∧ (∀ p, (t.portRec p).mode = .contact → t.port p
        = { state := .supervised, missed := 0, pollTimer := none, answerTimer := none, resync := none
            resetTimer := none, inputs := .empty })
      ∧ t.links.service = { receiver := .hunting, gathered := [], silence := none, inHand := none, held := none
                            reports := [], overflow := false, reply := none }
      ∧ t.links.host
        = { t.links.service with
            reports := (if answers then
                (if building then [] else [Report.groupDefaulted .building])
                  ++ (if input then [] else [Report.groupDefaulted .input])
                  ++ (if map then [] else [Report.groupDefaulted .map])
              else [.storeNotAnswering]).map fun r => ⟨0, r⟩ }

/-- R3: a load written through leaves its group KEPT with the store's copy of the group brought level; where the write
fails the group is UNKEPT, the store keeps what it held, the reply carries NOT_KEPT and one SUPERVISION report names the
group. "Store restored" is reported exactly when the last UNKEPT group becomes KEPT. What the write is given is the state
with the load made. That a failed write leaves the store as it was is the model's choice, notes/assumptions/6.md. -/
def Obligations.StoreWrites : Prop :=
  ∀ (s : State) (g : StoreGroup),
    (s.writeThrough g .failed
        = (({ s with desc := s.desc.setKeeping g .unkept }).report (.groupNotKept g), true))
      ∧ (s.writeThrough g .failed).1.desc.storeFault = true
      ∧ (s.writeThrough g .failed).1.store = s.store
      ∧ ∃ t, s.writeThrough g .written = (t, false)
        ∧ t.desc = s.desc.setKeeping g .kept
        ∧ (match g with
          | .building => t.store = { s.store with building := s.desc.building }
          | .input => t.store = { s.store with input := s.desc.input }
          | .map => t.store = { s.store with map := s.desc.map })
        ∧ s.onlyChanges t [.store, .desc, .links]
        ∧ (s.desc.storeFault = true ∧ t.desc.storeFault = false → t.links = (s.report .storeRestored).links)
        ∧ (¬ (s.desc.storeFault = true ∧ t.desc.storeFault = false) → t.links = s.links)

/-- R1 whole: the three store groups, the group each description request loads into, and the level and regime under which it is
taken. A BUILDING or an INPUT load needs level 2 and NORMAL; STAIR_USE needs level 2 and a MAP request level 2 in NORMAL,
else 1, and neither is turned away for the regime. A failed level is refused LEVEL, a failed regime STATE, and a request that
meets both is refused for neither (a BUILDING load may be STATE for its record, and ISOLATE_ZONE and RESTORE_ZONE LEVEL for
their zone). A request changes no group but its own. -/
def Obligations.LoadConditions : Prop :=
  ∀ (c : Instr) (l : Link) (h : Header) (k : Nat) (s : State),
    sentBy c = some (l, h) → Instr.kind c = some k → s.free l →
      let level := effectiveLevel l h
      let mapLevel := if s.regime.regime = .normal then 2 else 1
      let refused (r : Reason) := exec c s = .next (s.replied l h k (.refused r) [])
      let passes (r : Reason) := ∃ t v body, exec c s = .next t ∧ t.answered l h k v body ∧ v ≠ .refused r
      (7 ≤ k ∧ k ≤ 16 → (2 < level → refused .level)
          ∧ (level ≤ 2 → s.regime.regime ≠ .normal → refused .state)
          ∧ (level ≤ 2 → s.regime.regime = .normal → passes .level))
        ∧ (k = 22 → (2 < level → refused .level) ∧ (level ≤ 2 → passes .level)
          ∧ (s.unconfigured = false → passes .state))
        ∧ (17 ≤ k ∧ k ≤ 21 →
          (mapLevel < level → ∃ body, exec c s = .next (s.replied l h k (.refused .level) body) ∧ (k ≠ 17 → body = []))
            ∧ (level ≤ mapLevel → k ≤ 19 → passes .level) ∧ passes .state)
        ∧ ∃ t, exec c s = .next t
          ∧ ((7 ≤ k ∧ k ≤ 15) ∨ k = 22 → s.onlyBuilding t) ∧ (k = 16 → s.onlyInput t)
          ∧ (17 ≤ k ∧ k ≤ 21 →
            { t.desc with map := s.desc.map, keepMap := s.desc.keepMap, fallback := s.desc.fallback } = s.desc)

/-! ## Loads of the BUILDING group -/

/-- R4, R5, R16, R42 to R45, R56 to R58: an accepted SET_BUILDING replaces the building record, each figure in its range or at its default. One that
ends UNCONFIGURED starts the drain timer and, after the store, hands over every point then in ALARM, in order of port and
then point, each as in AlarmTaken; so with an alarm that isolation does not shelter the building leaves NORMAL at once. A street
floor at or above the FC carried is UNKNOWN. A new FC at or below a floor that a floor record, a stair, a bank, a door or a port
floor range names is refused STATE, and so is one at or below a floor of a tenant entry, where it would lower the FC; where the
coordinator is UNCONFIGURED the description alone counts. (The tenth at which a hold timer is due is the model's choice,
notes/assumptions/1.md.) -/
def Obligations.BuildingLoads : Prop :=
  ∀ (l : Link) (h : Header) (w : StoreWrite) (x : BuildingLoad) (s : State),
    s.free l → effectiveLevel l h ≤ 2 → s.regime.regime = .normal →
      let fc := max 2 (min 48 x.fc)
      let d := s.desc.building
      let named := (∃ r ∈ d.floors.rows, fc ≤ r.1) ∨ (∃ r ∈ d.stairs.rows, fc ≤ r.2.low ∨ fc ≤ r.2.high)
        ∨ (∃ r ∈ d.banks.rows, fc ≤ r.2.p ∨ fc ≤ r.2.q ∨ fc ≤ r.2.low ∨ fc ≤ r.2.high)
        ∨ (∃ r ∈ d.doors.rows, fc ≤ doorFloor r.1)
        ∨ ∃ r ∈ s.desc.input.ports.rows, ∃ y ∈ r.2.range, fc ≤ y.1 ∨ fc ≤ y.2
      let stranded := (s.unconfigured = true ∧ named) ∨ (s.unconfigured = false ∧ fc < s.fc
        ∧ (named ∨ ∃ e ∈ s.audio.tenants, ∃ f ∈ e.floors, fc ≤ f))
      (fc ≤ x.street → exec (.setBuilding l h w (some x)) s = .next (s.replied l h 7 (.refused .unknown) []))
        ∧ (x.street < fc → stranded →
          exec (.setBuilding l h w (some x)) s = .next (s.replied l h 7 (.refused .state) []))
        ∧ (x.street < fc → ¬ stranded →
          ∃ t, exec (.setBuilding l h w (some x)) s = .next t
            ∧ t.answered l h 7 (.done (buildingClamped x) (notKept w)) []
            ∧ t.desc.building = { s.desc.building with
                building := some
                  { fc := fc, street := x.street
                    coreAbove := clampOr 0 3 1 x.coreAbove, coreBelow := clampOr 0 2 1 x.coreBelow
                    threshold := clampOr 2 16 3 x.threshold, holdMax := clampOr 30 1800 300 x.holdMax
                    drainInterval := clampOr 5 60 10 x.drainInterval
                    relockHold := clampOr 10 600 120 x.relockHold, verifyTime := clampOr 1 10 3 x.verifyTime
                    recallMargin := clampOr 2 8 3 x.recallMargin, travelTime := clampOr 2 30 8 x.travelTime
                    parkConfirm := clampOr 5 60 15 x.parkConfirm } }
            ∧ s.onlyBuilding t ∧ s.wroteGroup t .building w
            ∧ (s.unconfigured = false → s.onlyChanges t [.store, .desc, .links])
            ∧ (s.unconfigured = true →
              t.stairs.drainTimer = some (s.clock + clampOr 5 60 10 x.drainInterval * 10)
                ∧ (s.panel.alarms = [] → s.onlyChanges t [.store, .desc, .stairs, .links]
                  ∧ t.stairs.live = s.stairs.live)
                ∧ (s.regime.sound → (∃ y ∈ s.panel.alarms, ∀ z, t.translate y.1 y.2 ≠ .isolated z) →
                  t.regime.regime = .alarm ∨ t.regime.regime = .general)
                ∧ (s.canonical → s.pointsSound →
                  (s.panel.alarms.map fun y => pointKey y.1 y.2).Pairwise (· < ·)
                    ∧ ∀ p n, 1 ≤ n ∧ n ≤ 1023 → ((p, n) ∈ s.panel.alarms ↔ (s.point p n).condition = .alarm))
                ∧ (s.canonical → s.regime.sound →
                  ∃ u v : State, s.onlyChanges u [.store, .desc, .stairs, .links] ∧ u.desc = t.desc ∧ u.store = t.store
                    ∧ u.stairs = { s.stairs with drainTimer := t.stairs.drainTimer }
                    ∧ u.alarmsHanded s.panel.alarms v
                    ∧ t = v.replied l h 7 (.done (buildingClamped x) (notKept w)) [])))

/-- R6: an accepted SET_FLOOR writes the floor's record, its occupancy brought into 0 to 999. A record that was not present sets
the live occupancy too; one that was leaves it; the removal form takes the record away and leaves the live occupancy. A
floor not in use is UNKNOWN. (No floor is queued in NORMAL: EvacuationQueueStaysSound. That a removal of no record is DONE
is the model's reading, notes/assumptions/12.md.) -/
def Obligations.FloorLoads : Prop :=
  ∀ (l : Link) (h : Header) (w : StoreWrite) (f : Nat) (direct : Bool) (n : Nat) (s : State),
    s.takesLoad l h → s.canonical → s.evac.queue = [] →
      (s.fc ≤ f →
          exec (.setFloor l h w (some ⟨f, some ⟨direct, n⟩⟩)) s = .next (s.replied l h 8 (.refused .unknown) [])
            ∧ exec (.setFloor l h w (some ⟨f, none⟩)) s = .next (s.replied l h 8 (.refused .unknown) []))
        ∧ (f < s.fc →
          (∃ t, exec (.setFloor l h w (some ⟨f, none⟩)) s = .next t
              ∧ t.answered l h 8 (.done false (notKept w)) []
              ∧ sameButAt s.desc.building.floors t.desc.building.floors f none
              ∧ { t.desc.building with floors := s.desc.building.floors } = s.desc.building
              ∧ s.onlyBuilding t ∧ s.wroteGroup t .building w ∧ s.onlyChanges t [.store, .desc, .links])
            ∧ ∃ t, exec (.setFloor l h w (some ⟨f, some ⟨direct, n⟩⟩)) s = .next t
              ∧ t.answered l h 8 (.done (decide (999 < n)) (notKept w)) []
              ∧ sameButAt s.desc.building.floors t.desc.building.floors f (some ⟨direct, min 999 n⟩)
              ∧ { t.desc.building with floors := s.desc.building.floors } = s.desc.building
              ∧ s.onlyBuilding t ∧ s.wroteGroup t .building w ∧ s.onlyChanges t [.store, .desc, .evac, .links]
              ∧ t.evac.queue = []
              ∧ ∀ g, t.floor g
                = if g = f ∧ s.desc.building.floors.get f = none then { s.floor f with occupancy := min 999 n }
                  else s.floor g)

/-- R7, R95, R107: an accepted SET_STAIR replaces every field of the record, its quantities brought into range. A stair new to
the description starts with load 0; one present keeps its load; the compromised flag of the letter stays either way, after a
removal too. It is refused FORMAT, UNKNOWN or STATE as R7 gives, and so is the removal form; a stair number outside 1 to 4 is
UNKNOWN. No floor changes in NORMAL. (That a removal of no record is DONE is the model's reading, notes/assumptions/12.md.) -/
def Obligations.StairLoads : Prop :=
  ∀ (l : Link) (h : Header) (w : StoreWrite) (st : Stair) (m : Nat) (x : StairFields) (s : State),
    s.takesLoad l h → s.canonical → s.queueSound →
      let old := s.desc.building.stairs
      let put := exec (.setStair l h w (some ⟨stairNumber st, some x⟩)) s
      let removal := exec (.setStair l h w (some ⟨stairNumber st, none⟩)) s
      (m < 1 ∨ 4 < m →
          (x.low ≤ x.high → exec (.setStair l h w (some ⟨m, some x⟩)) s = .next (s.replied l h 9 (.refused .unknown) []))
            ∧ exec (.setStair l h w (some ⟨m, none⟩)) s = .next (s.replied l h 9 (.refused .unknown) []))
        ∧ (x.high < x.low → put = .next (s.replied l h 9 (.refused .format) []))
        ∧ (x.low ≤ x.high → s.fc ≤ x.high ∨ s.desc.building.phrases.get x.phrase = none →
          put = .next (s.replied l h 9 (.refused .unknown) []))
        ∧ (x.low ≤ x.high → x.high < s.fc → s.desc.building.phrases.get x.phrase ≠ none →
          ((∃ n ∈ s.doorsOfStair st, doorFloor n < x.low ∨ x.high < doorFloor n) →
              put = .next (s.replied l h 9 (.refused .state) []))
            ∧ ((∀ n ∈ s.doorsOfStair st, x.low ≤ doorFloor n ∧ doorFloor n ≤ x.high) →
              ∃ t, put = .next t ∧ t.answered l h 9 (.done (stairFieldsClamped x) (notKept w)) []
                ∧ sameButAt old t.desc.building.stairs (stairNumber st)
                    (some { low := x.low, high := x.high, weight := max 1 (min 4 x.weight)
                            capacity := max 10 (min 4000 x.capacity), drain := max 1 (min 255 x.drain)
                            phrase := x.phrase, inUse := x.inUse })
                ∧ { t.desc.building with stairs := old } = s.desc.building
                ∧ s.onlyBuilding t ∧ s.wroteGroup t .building w ∧ t.evac = s.evac
                ∧ (∀ y, t.stairs.stair y = if y = st ∧ old.get (stairNumber st) = none then
                    { load := 0, saturated := false, compromised := (s.stairs.stair st).compromised }
                  else s.stairs.stair y)
                ∧ t.stairs.drainTimer = s.stairs.drainTimer))
        ∧ (s.doorsOfStair st ≠ [] ∨ (s.stairs.stair st).load ≠ 0 → removal = .next (s.replied l h 9 (.refused .state) []))
        ∧ (s.doorsOfStair st = [] → (s.stairs.stair st).load = 0 →
          ∃ t, removal = .next t ∧ t.answered l h 9 (.done false (notKept w)) []
            ∧ sameButAt old t.desc.building.stairs (stairNumber st) none
            ∧ { t.desc.building with stairs := old } = s.desc.building
            ∧ s.onlyBuilding t ∧ s.wroteGroup t .building w ∧ t.evac = s.evac
            ∧ (∀ y, t.stairs.stair y = if y = st then
                { load := 0, saturated := false, compromised := (s.stairs.stair st).compromised }
              else s.stairs.stair y)
            ∧ t.stairs.drainTimer = s.stairs.drainTimer)

/-- R8, R109, R110, R124: accepted SET_BANK and SET_CAR in both forms, with the live record of a bank or a car that comes or goes,
and the refusals R8 gives them: a bank outside 1 to 2 and a car outside 1 to 8 are UNKNOWN. (The model's readings: OVERLAP
stands before STATE, notes/assumptions/9.md; an address above 3 is UNKNOWN, and a removal of no record is DONE, 12.md; a
changed car is sent no HOLD, 41.md.) -/
def Obligations.LiftLoads : Prop :=
  ∀ (l : Link) (h : Header) (w : StoreWrite) (k : Bank) (m : Nat) (x : BankFields) (n a : Nat) (s : State),
    s.takesLoad l h → s.canonical →
      let banks := s.desc.building.banks
      let cars := s.desc.building.cars
      let putBank := exec (.setBank l h w (some ⟨bankNumber k, some x⟩)) s
      let dropBank := exec (.setBank l h w (some ⟨bankNumber k, none⟩)) s
      let putCar := exec (.setCar l h w (some ⟨n, some ⟨bankNumber k, a⟩⟩)) s
      let dropCar := exec (.setCar l h w (some ⟨n, none⟩)) s
      let held := ∃ c, s.lifts.cars.get n = some c ∧ (c.state = .firefighter ∨ c.state = .shutdown)
      (m < 1 ∨ 2 < m →
          (x.low ≤ x.high → exec (.setBank l h w (some ⟨m, some x⟩)) s = .next (s.replied l h 10 (.refused .unknown) []))
            ∧ exec (.setBank l h w (some ⟨m, none⟩)) s = .next (s.replied l h 10 (.refused .unknown) []))
        ∧ (n < 1 ∨ 8 < n → putCar = .next (s.replied l h 11 (.refused .unknown) [])
          ∧ dropCar = .next (s.replied l h 11 (.refused .unknown) []))
        ∧ (m < 1 ∨ 2 < m → 1 ≤ n → n ≤ 8 →
          exec (.setCar l h w (some ⟨n, some ⟨m, a⟩⟩)) s = .next (s.replied l h 11 (.refused .unknown) []))
        ∧ (x.low ≤ x.high → x.high < s.fc → x.low ≤ x.p ∧ x.p ≤ x.high → x.low ≤ x.q ∧ x.q ≤ x.high →
          ∃ t, putBank = .next t ∧ t.answered l h 10 (.done false (notKept w)) []
            ∧ sameButAt banks t.desc.building.banks (bankNumber k) (some ⟨x.p, x.q, x.low, x.high⟩)
            ∧ { t.desc.building with banks := banks } = s.desc.building
            ∧ s.onlyBuilding t ∧ s.wroteGroup t .building w ∧ s.onlyChanges t [.store, .desc, .lifts, .links]
            ∧ t.lifts.cars = s.lifts.cars ∧ t.lifts.pollTimer = s.lifts.pollTimer
            ∧ ∀ j, t.lifts.bank j = if j = k ∧ banks.get (bankNumber k) = none then
                { pBarred := false, qBarred := false, bothReported := false, shaft := (s.lifts.bank k).shaft }
              else s.lifts.bank j)
        ∧ (x.low ≤ x.high →
          s.fc ≤ x.high ∨ x.p < x.low ∨ x.high < x.p ∨ x.q < x.low ∨ x.high < x.q →
            putBank = .next (s.replied l h 10 (.refused .unknown) []))
        ∧ (x.high < x.low → putBank = .next (s.replied l h 10 (.refused .format) []))
        ∧ (s.bankCars k ≠ [] → dropBank = .next (s.replied l h 10 (.refused .state) []))
        ∧ (s.bankCars k = [] →
          ∃ t, dropBank = .next t ∧ t.answered l h 10 (.done false (notKept w)) []
            ∧ sameButAt banks t.desc.building.banks (bankNumber k) none
            ∧ { t.desc.building with banks := banks } = s.desc.building
            ∧ s.onlyBuilding t ∧ s.wroteGroup t .building w ∧ s.onlyChanges t [.store, .desc, .lifts, .links]
            ∧ t.lifts.cars = s.lifts.cars
            ∧ (t.lifts.bank k).shaft = (s.lifts.bank k).shaft)
        ∧ (1 ≤ n → n ≤ 8 → a ≤ 3 → banks.get (bankNumber k) ≠ none →
          ((∃ r ∈ cars.rows, r.1 ≠ n ∧ r.2 = ⟨k, a⟩) → putCar = .next (s.replied l h 11 (.refused .overlap) []))
            ∧ ((∀ r ∈ cars.rows, r.1 ≠ n → r.2 ≠ ⟨k, a⟩) →
              (held → putCar = .next (s.replied l h 11 (.refused .state) []))
                ∧ (¬ held → ∃ t, putCar = .next t ∧ t.answered l h 11 (.done false (notKept w)) []
                  ∧ sameButAt cars t.desc.building.cars n (some ⟨k, a⟩)
                  ∧ { t.desc.building with cars := cars } = s.desc.building
                  ∧ s.onlyBuilding t ∧ s.wroteGroup t .building w ∧ s.onlyChanges t [.store, .desc, .lifts, .links]
                  ∧ t.lifts.banks = s.lifts.banks
                  ∧ (cars.get n = some ⟨k, a⟩ → t.lifts = s.lifts)
                  ∧ (cars.get n ≠ some ⟨k, a⟩ → sameButAt s.lifts.cars t.lifts.cars n (some
                    { state := .faulted, cause := some .link, awaiting := true, position := none, reported := none
                      motion := none, doors := none, mode := none, outOfRange := false, parked := none, run := none
                      silence := some (s.clock + 50), holdAgain := false })))))
        ∧ (1 ≤ n → n ≤ 8 → banks.get (bankNumber k) = none ∨ 3 < a →
          putCar = .next (s.replied l h 11 (.refused .unknown) []))
        ∧ (1 ≤ n → n ≤ 8 → held → dropCar = .next (s.replied l h 11 (.refused .state) []))
        ∧ (1 ≤ n → n ≤ 8 → ¬ held →
          ∃ t, dropCar = .next t ∧ t.answered l h 11 (.done false (notKept w)) []
            ∧ sameButAt cars t.desc.building.cars n none
            ∧ { t.desc.building with cars := cars } = s.desc.building
            ∧ s.onlyBuilding t ∧ s.wroteGroup t .building w ∧ s.onlyChanges t [.store, .desc, .lifts, .links]
            ∧ t.lifts.banks = s.lifts.banks ∧ sameButAt s.lifts.cars t.lifts.cars n none)

/-- R9, R126 to R129: accepted SET_SECTION and SET_DOOR in both forms, with the live record of a section or a door that comes or
goes, and the refusals R9 gives them. A door that becomes present is LOCKED with no override and is sent LOCK, and brings the
node of its floor into use with its silence timer; the last door of a floor takes the node out of use. A raised capacity is
followed by a run of the arbiter, after which no door waits beside a free slot. (The model's readings: the STATE of SET_SECTION
is judged on the capacity as brought into 1 to 32, not as carried, notes/assumptions/9.md; a removal of no record is DONE,
12.md; the node's silence timer and silent state go with the last door of its floor, 48.md.) -/
def Obligations.DoorLoads : Prop :=
  ∀ (l : Link) (h : Header) (w : StoreWrite) (k c f m : Nat) (st : Stair) (reentry : Bool) (s : State),
    s.takesLoad l h → s.canonical → s.doorsSound →
      let sections := s.desc.building.sections
      let doors := s.desc.building.doors
      let n := doorNumber f st
      let putSection := exec (.setSection l h w (some ⟨k, some c⟩)) s
      let dropSection := exec (.setSection l h w (some ⟨k, none⟩)) s
      let putDoor := exec (.setDoor l h w (some ⟨f, stairNumber st, some ⟨k, reentry⟩⟩)) s
      let dropDoor := exec (.setDoor l h w (some ⟨f, stairNumber st, none⟩)) s
      let capacity := max 1 (min 32 c)
      let granted := match s.doors.sections.get k with | some x => x.grants.length | none => 0
      let busy := ∃ d, s.doors.doors.get n = some d ∧ d.state ≠ .locked
      (k < 1 ∨ 8 < k → putSection = .next (s.replied l h 12 (.refused .unknown) [])
          ∧ dropSection = .next (s.replied l h 12 (.refused .unknown) []))
        ∧ (m < 1 ∨ 4 < m →
          exec (.setDoor l h w (some ⟨f, m, some ⟨k, reentry⟩⟩)) s = .next (s.replied l h 13 (.refused .unknown) [])
            ∧ exec (.setDoor l h w (some ⟨f, m, none⟩)) s = .next (s.replied l h 13 (.refused .unknown) []))
        ∧ (1 ≤ k → k ≤ 8 → capacity < granted → putSection = .next (s.replied l h 12 (.refused .state) []))
        ∧ (1 ≤ k → k ≤ 8 → granted ≤ capacity →
          ∃ t, putSection = .next t ∧ t.answered l h 12 (.done (decide (c < 1 ∨ 32 < c)) (notKept w)) []
            ∧ sameButAt sections t.desc.building.sections k (some capacity)
            ∧ { t.desc.building with sections := sections } = s.desc.building
            ∧ s.onlyBuilding t ∧ s.wroteGroup t .building w
            ∧ s.onlyChanges t [.orders, .store, .desc, .doors, .links]
            ∧ (∀ j, j ≠ k → t.doors.sections.get j = s.doors.sections.get j)
            ∧ (sections.get k = none → t.doors.sections.get k = some
              { ok := false, answered := false, grants := [], waiting := [], silence := some (s.clock + 50) })
            ∧ (∀ old, sections.get k = some old → capacity ≤ old → t.doors = s.doors)
            ∧ ∀ x, t.doors.sections.get k = some x → sections.get k ≠ none → sections.get k ≠ some capacity →
              x.ok = true → (∀ old, sections.get k = some old → old < capacity) →
                x.waiting = [] ∨ capacity ≤ x.grants.length)
        ∧ (1 ≤ k → k ≤ 8 → (∃ r ∈ doors.rows, r.2.sec = k) →
          dropSection = .next (s.replied l h 12 (.refused .state) []))
        ∧ (1 ≤ k → k ≤ 8 → (∀ r ∈ doors.rows, r.2.sec ≠ k) →
          ∃ t, dropSection = .next t ∧ t.answered l h 12 (.done false (notKept w)) []
            ∧ sameButAt sections t.desc.building.sections k none
            ∧ { t.desc.building with sections := sections } = s.desc.building
            ∧ s.onlyBuilding t ∧ s.wroteGroup t .building w ∧ s.onlyChanges t [.store, .desc, .doors, .links]
            ∧ t.doors.doors = s.doors.doors ∧ sameButAt s.doors.sections t.doors.sections k none)
        ∧ (f < s.fc → s.serves st f = true → sections.get k ≠ none →
          (busy → putDoor = .next (s.replied l h 13 (.refused .state) []))
            ∧ (¬ busy → ∃ t, putDoor = .next t ∧ t.answered l h 13 (.done false (notKept w)) []
              ∧ sameButAt doors t.desc.building.doors n (some ⟨k, reentry⟩)
              ∧ { t.desc.building with doors := doors } = s.desc.building
              ∧ s.onlyBuilding t ∧ s.wroteGroup t .building w
              ∧ s.onlyChanges t [.orders, .store, .desc, .doors, .links]
              ∧ t.doors.sections = s.doors.sections
              ∧ (doors.get n ≠ none → t.doors = s.doors ∧ t.orders = s.orders)
              ∧ (doors.get n = none → t.orders = s.orders ++ [.lock n]
                ∧ sameButAt s.doors.nodes t.doors.nodes f (some ((s.doors.nodes.get f).getD
                  { silence := some (s.clock + 50), silent := false }))
                ∧ sameButAt s.doors.doors t.doors.doors n (some
                  { state := .locked, override := .none, cls := none, demanded := none, granted := none
                    retryUsed := false, feedback := .unknown
                    verify := some (.lock, s.clock + s.figure (·.verifyTime) * 10) }))))
        ∧ (s.fc ≤ f ∨ s.serves st f = false →
          putDoor = .next (s.replied l h 13 (.refused .unknown) [])
            ∧ dropDoor = .next (s.replied l h 13 (.refused .unknown) []))
        ∧ (sections.get k = none → putDoor = .next (s.replied l h 13 (.refused .unknown) []))
        ∧ (f < s.fc → s.serves st f = true →
          (busy → dropDoor = .next (s.replied l h 13 (.refused .state) []))
            ∧ (¬ busy → ∃ t, dropDoor = .next t ∧ t.answered l h 13 (.done false (notKept w)) []
              ∧ sameButAt doors t.desc.building.doors n none
              ∧ { t.desc.building with doors := doors } = s.desc.building
              ∧ s.onlyBuilding t ∧ s.wroteGroup t .building w ∧ s.onlyChanges t [.store, .desc, .doors, .links]
              ∧ t.doors.sections = s.doors.sections ∧ sameButAt s.doors.doors t.doors.doors n none
              ∧ sameButAt s.doors.nodes t.doors.nodes f
                (if ∀ j ∈ s.doorsOfFloor f, j = n then none else s.doors.nodes.get f)))

/-- R10, R11: accepted SET_PHRASE and SET_TEMPLATE in both forms, and their refusals: a phrase number above 511 is UNKNOWN, a
phrase still named is refused STATE, a template that breaks its form FORMAT, and one that names a phrase without an entry
UNKNOWN. Only the named record changes. (That a removal of no record is DONE is the model's reading,
notes/assumptions/12.md.) -/
def Obligations.MessageLoads : Prop :=
  ∀ (l : Link) (h : Header) (w : StoreWrite) (n k : Nat) (m : Template) (list : List (Option Nat)) (s : State),
    s.takesLoad l h → s.canonical →
      let phrases := s.desc.building.phrases
      let templates := s.desc.building.templates
      let named := (∃ r ∈ templates.rows, some n ∈ r.2) ∨ (∃ r ∈ s.desc.building.stairs.rows, r.2.phrase = n)
        ∨ ∃ e ∈ s.audio.tenants, n ∈ e.phrases
      let form := (1 ≤ list.length ∧ list.length ≤ 16)
        ∧ (m = .evacuate → list.count none = 1) ∧ (m ≠ .evacuate → none ∉ list)
        ∧ (m = .drillPrefix ∨ m = .exitPhrase → list.length = 1)
      let putPhrase := exec (.setPhrase l h w (some ⟨n, some k⟩)) s
      let dropPhrase := exec (.setPhrase l h w (some ⟨n, none⟩)) s
      let putTemplate := exec (.setTemplate l h w (some ⟨m, some list⟩)) s
      (511 < n → putPhrase = .next (s.replied l h 14 (.refused .unknown) [])
          ∧ dropPhrase = .next (s.replied l h 14 (.refused .unknown) []))
        ∧ (n ≤ 511 →
          (∃ t, putPhrase = .next t ∧ t.answered l h 14 (.done (decide (k < 1 ∨ 200 < k)) (notKept w)) []
              ∧ sameButAt phrases t.desc.building.phrases n (some (max 1 (min 200 k)))
              ∧ { t.desc.building with phrases := phrases } = s.desc.building
              ∧ s.onlyBuilding t ∧ s.wroteGroup t .building w ∧ s.onlyChanges t [.store, .desc, .links])
            ∧ (named → dropPhrase = .next (s.replied l h 14 (.refused .state) []))
            ∧ (¬ named → ∃ t, dropPhrase = .next t ∧ t.answered l h 14 (.done false (notKept w)) []
              ∧ sameButAt phrases t.desc.building.phrases n none
              ∧ { t.desc.building with phrases := phrases } = s.desc.building
              ∧ s.onlyBuilding t ∧ s.wroteGroup t .building w ∧ s.onlyChanges t [.store, .desc, .links]))
        ∧ (¬ form → putTemplate = .next (s.replied l h 15 (.refused .format) []))
        ∧ (form → (∃ p, some p ∈ list ∧ phrases.get p = none) →
          putTemplate = .next (s.replied l h 15 (.refused .unknown) []))
        ∧ (form → (∀ p, some p ∈ list → phrases.get p ≠ none) →
          ∃ t, putTemplate = .next t ∧ t.answered l h 15 (.done false (notKept w)) []
            ∧ sameButAt templates t.desc.building.templates (templateNumber m) (some list)
            ∧ { t.desc.building with templates := templates } = s.desc.building
            ∧ s.onlyBuilding t ∧ s.wroteGroup t .building w ∧ s.onlyChanges t [.store, .desc, .links])
        ∧ ∃ t, exec (.setTemplate l h w (some ⟨m, none⟩)) s = .next t
          ∧ t.answered l h 15 (.done false (notKept w)) []
          ∧ sameButAt templates t.desc.building.templates (templateNumber m) none
          ∧ { t.desc.building with templates := templates } = s.desc.building
          ∧ s.onlyBuilding t ∧ s.wroteGroup t .building w ∧ s.onlyChanges t [.store, .desc, .links]

/-! ## SET_PORT -/

/-- R12, R15, R33: an accepted SET_PORT writes the port's record, its times brought into range. With the mode as it was the live
port stays; with the mode changed every point of the port is NORMAL with its short flag clear and the port starts afresh in
its new mode, and the points of other ports keep their conditions. It is taken while UNCONFIGURED, its floors judged
against 48. A port number outside 1 to 4 is UNKNOWN. -/
def Obligations.PortLoads : Prop :=
  ∀ (l : Link) (h : Header) (w : StoreWrite) (p : Port) (m : PortMode) (k lo hi d v : Nat) (s : State),
    s.free l → effectiveLevel l h ≤ 2 → s.regime.regime = .normal → s.canonical →
      let load := exec (.setPort l h w (some ⟨portNumber p, m, lo, hi, d, v⟩)) s
      let limit := if s.unconfigured then 48 else s.fc
      let rec' : PortRec := { mode := m, range := some (lo, hi), debounce := max 5 (min 50 d)
                              supervision := max 2 (min 30 v) }
      (lo ≤ hi → k < 1 ∨ 4 < k →
          exec (.setPort l h w (some ⟨k, m, lo, hi, d, v⟩)) s = .next (s.replied l h 16 (.refused .unknown) []))
        ∧ (hi < lo → load = .next (s.replied l h 16 (.refused .format) []))
        ∧ (lo ≤ hi → limit ≤ hi → load = .next (s.replied l h 16 (.refused .unknown) []))
        ∧ (lo ≤ hi → hi < limit →
          ∃ t, load = .next t
            ∧ t.answered l h 16 (.done (decide (d < 5 ∨ 50 < d ∨ v < 2 ∨ 30 < v)) (notKept w)) []
            ∧ t.portRec p = rec' ∧ (∀ q, q ≠ p → t.portRec q = s.portRec q)
            ∧ s.onlyInput t ∧ s.wroteGroup t .input w
            ∧ (m = (s.portRec p).mode → s.onlyChanges t [.store, .desc, .links])
            ∧ (m ≠ (s.portRec p).mode →
              (∀ n, 1 ≤ n ∧ n ≤ 1023 → (t.point p n).condition = .normal
                  ∧ ((s.point p n).condition ≠ .normal → (t.point p n).short = false))
                ∧ (∀ q n, q ≠ p → 1 ≤ n ∧ n ≤ 1023 → t.point q n = s.point q n)
                ∧ (∀ q, q ≠ p → t.port q = s.port q)
                ∧ s.onlyChanges t [.orders, .store, .desc, .panel, .regime, .links]
                ∧ t.regime.regime = s.regime.regime ∧ t.regime.incidents.length = s.regime.incidents.length
                ∧ (m = .contact → t.orders = s.orders ∧ t.port p
                  = { state := .supervised, missed := 0, pollTimer := none, answerTimer := none, resync := none
                      resetTimer := none, inputs := .empty })
                ∧ (m = .serial → t.orders = s.orders ++ [.poll p] ∧ t.port p
                  = { state := .starting, missed := 0
                      pollTimer := some (s.clock + rec'.supervision * 10), answerTimer := some (s.clock + 10)
                      resync := none, resetTimer := none, inputs := .empty })))

/-! ## The map -/

/-- R37, R38, R62: an accepted SET_ZONE replaces the kind and its fields, takes the lock level (3 for NONE), keeps the isolated
flag and advances the revision; its reply gives the descriptor as it stood, and every open incident that latches the zone
is stale. A SET_ZONE refused LEVEL, FORMAT or UNKNOWN changes nothing, and its reply gives the descriptor as it stands. (The
byte layout of the descriptor is the model's, and that a SET_ZONE with no zone in it is refused with an empty body,
notes/assumptions/10.md.) -/
def Obligations.ZoneLoads : Prop :=
  ∀ (l : Link) (h : Header) (w : StoreWrite) (z : Nat) (f : ZoneFields) (s : State),
    s.free l → s.canonical →
      let old := s.zone z
      let load (b : ZoneBody) := exec (.setZone l h w (some ⟨z, b⟩)) s
      let accepts (b : ZoneBody) (area : Option Area) (lock : Nat) (clamped : Bool) :=
        ∃ t, load b = .next t
          ∧ t.answered l h 17 (.done clamped (notKept w)) (old.items 1).flatten
          ∧ t.zone z = { area := area, lock := lock, isolated := old.isolated, revision := old.revision + 1 }
          ∧ (∀ y, y ≠ z → t.zone y = s.zone y) ∧ t.desc.map.ranges = s.desc.map.ranges
          ∧ s.onlyMap t ∧ s.wroteGroup t .map w ∧ s.onlyChanges t [.store, .desc, .regime, .links]
          ∧ t.regime = { s.regime with
              incidents := s.regime.incidents.map fun i => if i.zone = z then { i with stale := true } else i }
      let refuses (b : ZoneBody) (why : Reason) :=
        load b = .next (s.replied l h 17 (.refused why) (if 1 ≤ z ∧ z ≤ 127 then (old.items 1).flatten else []))
      let level := if s.regime.regime = .normal then 2 else 1
      let kind : Option IncidentKind := match f.kind with
        | .floor => some .floor
        | .manual => some .manual
        | .stair m => (allStairs.find? fun x => decide (stairNumber x = m ∧ s.desc.building.stairs.get m ≠ none)).map .stair
        | .shaft m => (allBanks.find? fun b => decide (bankNumber b = m ∧ s.desc.building.banks.get m ≠ none)).map .shaft
      (level < effectiveLevel l h → (∀ b, refuses b .level)
          ∧ exec (.setZone l h w none) s = .next (s.replied l h 17 (.refused .level) []))
        ∧ (s.takesMap l h → exec (.setZone l h w none) s = .next (s.replied l h 17 (.refused .format) []))
        ∧ (s.takesMap l h → (1 ≤ z ∧ z ≤ 127 → accepts .undefined none 3 false)
          ∧ (¬ (1 ≤ z ∧ z ≤ 127) → refuses .undefined .unknown)
          ∧ refuses .malformed .format
          ∧ (f.lock < 1 ∨ 3 < f.lock → refuses (.defined f) .format)
          ∧ (1 ≤ f.lock → f.lock ≤ 3 → ¬ (1 ≤ z ∧ z ≤ 127) ∨ 47 < f.base ∨ kind = none →
            refuses (.defined f) .unknown)
          ∧ (1 ≤ f.lock → f.lock ≤ 3 → 1 ≤ z ∧ z ≤ 127 → f.base ≤ 47 → ∀ k, kind = some k →
            accepts (.defined f)
              (some { kind := k, base := f.base, span := f.span, ppf := min 64 f.ppf, limit := min 1022 f.limit })
              f.lock (decide (64 < f.ppf ∨ 1022 < f.limit))))

/-- R2, R39: an accepted SET_RANGE puts the range in the table in the stead of one with its port and first point, and the table stays
in order with no shared point. A count of 0 or above 1023 is FORMAT; a port, point or zone out of range UNKNOWN; a range
that would share a point with another OVERLAP; a new one past 256 FULL. The reply gives the range and the number present. (That FORMAT for the count stands before UNKNOWN, and OVERLAP before
FULL, is the model's reading, notes/assumptions/9.md.) -/
def Obligations.RangeLoads : Prop :=
  ∀ (l : Link) (h : Header) (w : StoreWrite) (p : Port) (port first count zone : Nat) (s : State),
    s.takesMap l h → rangesSound s.desc.map.ranges →
      let old := s.desc.map.ranges
      let load (port : Nat) := exec (.setRange l h w (some ⟨port, first, count, zone⟩)) s
      let inRange := 1 ≤ first ∧ first ≤ 1023 ∧ first + count - 1 ≤ 1023 ∧ zone ≤ 127
      let overlap := ∃ r ∈ old, r.port = p ∧ r.first ≠ first ∧ first < r.first + r.count ∧ r.first < first + count
      let present := ∃ r ∈ old, r.port = p ∧ r.first = first
      (count < 1 ∨ 1023 < count → load port = .next (s.replied l h 18 (.refused .format) []))
        ∧ (1 ≤ count → count ≤ 1023 →
          (port < 1 ∨ 4 < port → load port = .next (s.replied l h 18 (.refused .unknown) []))
            ∧ (¬ inRange → load (portNumber p) = .next (s.replied l h 18 (.refused .unknown) []))
            ∧ (inRange → overlap → load (portNumber p) = .next (s.replied l h 18 (.refused .overlap) []))
            ∧ (inRange → ¬ overlap → ¬ present → old.length = 256 →
              load (portNumber p) = .next (s.replied l h 18 (.refused .full) []))
            ∧ (inRange → ¬ overlap → present ∨ old.length < 256 →
              ∃ t, load (portNumber p) = .next t
                ∧ t.answered l h 18 (.done false (notKept w))
                    (b1 (portNumber p) ++ b2 first ++ b2 count ++ b1 zone ++ b2 t.desc.map.ranges.length)
                ∧ (∀ r, r ∈ t.desc.map.ranges ↔ r = ⟨p, first, count, zone⟩
                  ∨ (r ∈ old ∧ ¬ (r.port = p ∧ r.first = first)))
                ∧ rangesSound t.desc.map.ranges ∧ t.desc.map.zones = s.desc.map.zones
                ∧ s.onlyMap t ∧ s.wroteGroup t .map w ∧ s.onlyChanges t [.store, .desc, .links]))

/-- R40 whole: CLEAR_RANGE needs the MAP group level; it removes the range that begins at its port and first point, and writes
the removal through; where none begins there (a point inside a range counts for nothing, and no range begins on a port
outside 1 to 4) it is refused UNKNOWN; the points of the removed range belong to no range from then on. -/
def Obligations.RangeClear : Prop :=
  ∀ (l : Link) (h : Header) (w : StoreWrite) (p : Port) (k n : Nat) (s : State), s.free l → rangesSound s.desc.map.ranges →
    let clear := exec (.clearRange l h w (some ⟨portNumber p, n⟩)) s
    let needed := if s.regime.regime = .normal then 2 else 1
    (needed < effectiveLevel l h → clear = .next (s.replied l h 19 (.refused .level) []))
      ∧ (effectiveLevel l h ≤ needed → k < 1 ∨ 4 < k →
        exec (.clearRange l h w (some ⟨k, n⟩)) s = .next (s.replied l h 19 (.refused .unknown) []))
      ∧ (effectiveLevel l h ≤ needed → (∀ r ∈ s.desc.map.ranges, ¬ (r.port = p ∧ r.first = n)) →
        clear = .next (s.replied l h 19 (.refused .unknown) []))
      ∧ ∀ r ∈ s.desc.map.ranges, effectiveLevel l h ≤ needed → r.port = p → r.first = n →
        ∃ t, clear = .next t ∧ t.answered l h 19 (.done false (notKept w)) []
          ∧ t.desc.map.ranges = s.desc.map.ranges.erase r ∧ t.desc.map.zones = s.desc.map.zones
          ∧ s.onlyMap t ∧ s.wroteGroup t .map w ∧ s.onlyChanges t [.store, .desc, .links]
          ∧ ∀ k, r.first ≤ k → k < r.first + r.count → t.rangeOf p k = none

/-- R47, R48: ISOLATE_ZONE sets and RESTORE_ZONE clears the isolated flag of the zone, at a level at least as privileged as the
group's, the zone's lock level, and 1 while an open incident latches the zone; both are written through. A restoration, after
the flag and the store, hands over the zone's points in ALARM that contribute to no incident, one after another and each as
in AlarmTaken, if the flag was set and the coordinator is configured: afterwards each contributes to an incident, unless the
list is full. The reply gives their number. (The tenth at which a hold timer is due is the model's choice,
notes/assumptions/1.md.) -/
def Obligations.ZoneIsolation : Prop :=
  ∀ (l : Link) (h : Header) (w : StoreWrite) (z : Nat) (s : State), s.free l → s.canonical → s.regime.sound →
    let isolate := exec (.isolateZone l h w (some z)) s
    let restore := exec (.restoreZone l h w (some z)) s
    let group := if s.regime.regime = .normal then 2 else 1
    let latched := ∃ i ∈ s.regime.incidents, i.zone = z
    let mayDo := effectiveLevel l h ≤ group ∧ effectiveLevel l h ≤ (s.zone z).lock ∧ (latched → effectiveLevel l h ≤ 1)
    (effectiveLevel l h ≤ group → ¬ (1 ≤ z ∧ z ≤ 127) →
        isolate = .next (s.replied l h 20 (.refused .unknown) [])
          ∧ restore = .next (s.replied l h 21 (.refused .unknown) []))
      ∧ (1 ≤ z ∧ z ≤ 127 → effectiveLevel l h ≤ 3 → ¬ mayDo → (s.zone z).lock ≤ 3 →
        isolate = .next (s.replied l h 20 (.refused .level) [])
          ∧ restore = .next (s.replied l h 21 (.refused .level) []))
      ∧ (1 ≤ z ∧ z ≤ 127 → mayDo →
        (∃ t, isolate = .next t ∧ t.answered l h 20 (.done false (notKept w)) []
            ∧ t.zone z = { s.zone z with isolated := true } ∧ (∀ y, y ≠ z → t.zone y = s.zone y)
            ∧ t.desc.map.ranges = s.desc.map.ranges
            ∧ s.onlyMap t ∧ s.wroteGroup t .map w ∧ s.onlyChanges t [.store, .desc, .links])
          ∧ ∃ t, restore = .next t
            ∧ let standing := if (s.zone z).isolated = true ∧ s.unconfigured = false then
                (s.zoneAlarms z).filter fun x => (s.point x.1 x.2).incident = 0 else []
              t.answered l h 21 (.done false (notKept w)) (b2 standing.length)
                ∧ t.zone z = { s.zone z with isolated := false } ∧ (∀ y, y ≠ z → t.zone y = s.zone y)
                ∧ t.desc.map.ranges = s.desc.map.ranges ∧ s.onlyMap t ∧ s.wroteGroup t .map w
                ∧ (s.pointsSound → rangesSound s.desc.map.ranges →
                  (standing.map fun x => pointKey x.1 x.2).Pairwise (· < ·)
                    ∧ ∀ p n, 1 ≤ n ∧ n ≤ 1023 → ((p, n) ∈ standing
                      ↔ (s.zone z).isolated = true ∧ s.unconfigured = false ∧ (s.point p n).condition = .alarm
                        ∧ (s.point p n).incident = 0
                        ∧ ∃ r ∈ s.desc.map.ranges, r.zone = z ∧ r.port = p ∧ r.first ≤ n ∧ n < r.first + r.count))
                ∧ (standing = [] → s.onlyChanges t [.store, .desc, .links])
                ∧ (∀ x ∈ standing, (t.point x.1 x.2).incident ≠ 0 ∨ 16 ≤ t.regime.incidents.length)
                ∧ ∃ u v : State, s.onlyChanges u [.store, .desc, .links] ∧ u.desc = t.desc ∧ u.store = t.store
                  ∧ u.alarmsHanded standing v
                  ∧ t = v.replied l h 21 (.done false (notKept w)) (b2 standing.length))

/-- R42, R43, R44: the translation of a point, step by step: NO_RANGE, NULL_ZONE, UNDEFINED, LIMIT, SPAN, isolated, located. An
unlocated result has zone 0, kind FLOOR, no descriptor copy and the floor range of the port's record. (That whole building is
48 floors while UNCONFIGURED is the model's reading, notes/assumptions/33.md.) -/
def Obligations.TranslationSteps : Prop :=
  ∀ (s : State) (p : Port) (n : Nat), rangesSound s.desc.map.ranges →
    let fs := match (s.portRec p).range with
      | some r => (r.1, r.2 + 1 - r.1)
      | none => (0, if s.unconfigured then 48 else s.fc)
    let fails (why : Unlocated) := s.translate p n
      = .unlocated why { zone := 0, kind := .floor, first := fs.1, count := fs.2, origin := (p, n), latched := none }
    ((∀ r ∈ s.desc.map.ranges, ¬ (r.port = p ∧ r.first ≤ n ∧ n < r.first + r.count)) → fails .noRange)
      ∧ ∀ r ∈ s.desc.map.ranges, r.port = p → r.first ≤ n → n < r.first + r.count →
        (r.zone = 0 → fails .nullZone)
          ∧ (r.zone ≠ 0 → (s.zone r.zone).area = none → fails .undefined)
          ∧ ∀ a, r.zone ≠ 0 → (s.zone r.zone).area = some a →
            (a.limit < n - r.first → fails .limit)
              ∧ (n - r.first ≤ a.limit →
                let first := if a.ppf = 0 then a.base else a.base + (n - r.first) / a.ppf
                let count := if a.ppf = 0 then a.span else 1
                let limit := min (a.base + a.span) (if s.unconfigured then 48 else s.fc)
                (limit < first + count → fails .span)
                  ∧ (first + count ≤ limit → (s.zone r.zone).isolated = true → s.translate p n = .isolated r.zone)
                  ∧ (first + count ≤ limit → (s.zone r.zone).isolated = false → s.translate p n
                    = .located { zone := r.zone, kind := a.kind, first := first, count := count, origin := (p, n)
                                 latched := some { kind := a.kind, base := a.base, span := a.span, ppf := a.ppf
                                                   revision := (s.zone r.zone).revision } }))

/-! ## The regime -/

/-- R60, R61, R89, R109, R113, R119, R130, R131, R132, R133, R144, R147, R151: GENERAL needs level 2 and a building record. In NORMAL, ALARM and STANDDOWN the regime becomes GENERAL with cause REQUEST; every
floor in use is then in EVACUATE or DEFEND, none is queued, and each that has changed has its new message. From NORMAL and
STANDDOWN every car in AUTO runs to its recall floor and the doors take demand; from NORMAL the tenant programs are
suspended; from ALARM the runs leave barred floors and the doors keep their demand. In GENERAL it is DONE with no change.
The reply gives the regime after it; the drill flag, the lifts-included flag and the incidents stay. -/
def Obligations.GeneralEvacuation : Prop :=
  ∀ (l : Link) (h : Header) (s : State), s.free l → s.canonical →
    let general := exec (.general l h (some ())) s
    (2 < effectiveLevel l h → general = .next (s.replied l h 27 (.refused .level) []))
      ∧ (effectiveLevel l h ≤ 2 → s.unconfigured = true → general = .next (s.replied l h 27 (.refused .state) []))
      ∧ (effectiveLevel l h ≤ 2 → s.unconfigured = false → s.regime.regime = .general →
        general = .next (s.replied l h 27 (.done false false) [2#8]))
      ∧ (effectiveLevel l h ≤ 2 → s.unconfigured = false → s.regime.regime ≠ .general →
        ∃ t, general = .next t ∧ t.answered l h 27 (.done false false) [2#8]
          ∧ t = (s.setRegime .general .request).replied l h 27 (.done false false) [2#8]
          ∧ t.regime = { s.regime with regime := .general, relockComplete := false }
          ∧ t.evac.queue = [] ∧ (∀ f, f < s.fc → (t.floor f).sent)
          ∧ (s.regime.sound → s.regime.regime = .alarm → t.redirected)
          ∧ (s.regime.sound → s.regime.regime ≠ .alarm → s.autosRun t)
          ∧ (s.doorsSound → s.regime.regime = .alarm → s.demandKept t)
          ∧ (s.doorsSound → s.regime.regime ≠ .alarm → s.doorsCalled t)
          ∧ (s.audioSound → t.audio.served ∧ s.speaks t ∧ (s.regime.regime = .normal → s.tenantsSilenced t))
          ∧ s.onlyChanges t [.orders, .regime, .evac, .stairs, .lifts, .doors, .audio, .links])

/-- What a stand-down leaves (R70, R90, R106, R109, R123, R130, R139, R144, R147), and when END_DRILL and STAND_DOWN are refused
(R68, R69): the regime STANDDOWN with no incident, no drill and the next number as it was; no point naming an incident; the
queue empty and every floor in use that was not NORMAL in STANDDOWN with its route, shares and core flag cleared and its
new message; every stair's load and saturation as they were and no stair compromised; no flag of a bank set; every car
recalled or parked in AUTO and sent RELEASE; the relock hold running, with the doors' demand standing. (The byte layout of
the points named in the reply is the model's, notes/assumptions/10.md; which of several failed checks is named, 9.md; the tenth at which the relock
hold is due, 1.md.) -/
def Obligations.StandDowns : Prop :=
  ∀ (l : Link) (h : Header) (s : State), s.free l → s.canonical →
    let stand := exec (.standDown l h (some ())) s
    let endDrill := exec (.endDrill l h (some ())) s
    let fire := s.regime.regime = .alarm ∨ s.regime.regime = .general
    let down (o : Host.Outcome State Fault Refusal) (k : Nat) :=
      ∃ t, o = .next t ∧ t.answered l h k (.done false false) (b1 s.regime.incidents.length)
        ∧ t.regime = { regime := .standdown, drill := false, liftsIncluded := false, relockComplete := false
                       incidents := [], nextNumber := s.regime.nextNumber }
        ∧ (∀ p n, 1 ≤ n ∧ n ≤ 1023 → t.point p n = { s.point p n with incident := 0 })
        ∧ t.panel.ports = s.panel.ports
        ∧ t.evac.queue = []
        ∧ (∀ f, f < s.fc → t.floor f = if (s.floor f).phase = .normal then s.floor f else
            { phase := .standdown, core := false, route := .empty, shares := []
              occupancy := (s.floor f).occupancy
              phaseTime := if (s.floor f).phase = .standdown then (s.floor f).phaseTime else s.now })
        ∧ (∀ x, t.stairs.stair x = { s.stairs.stair x with compromised := false })
        ∧ (∀ b, (t.lifts.bank b).shaft = false)
        ∧ (∀ b r, s.bankRec b = some r → t.lifts.bank b
          = { pBarred := false, qBarred := false, bothReported := false, shaft := false })
        ∧ (∀ n, t.lifts.cars.get n = (s.lifts.cars.get n).map fun c =>
          if c.state = .recalling ∨ c.state = .parked then
            { c with state := .auto, cause := none, parked := none, run := none } else c)
        ∧ (∀ n c, s.lifts.cars.get n = some c → c.state = .recalling ∨ c.state = .parked →
          .release n ∈ t.orders.drop s.orders.length)
        ∧ t.doors.relockTimer = some (s.clock + s.figure (·.relockHold) * 10)
        ∧ (s.doorsSound → s.demandKept t)
        ∧ (s.audioSound → t.audio.served ∧ s.speaks t)
        ∧ s.onlyChanges t [.orders, .panel, .regime, .evac, .stairs, .lifts, .doors, .audio, .links]
    (2 < effectiveLevel l h → endDrill = .next (s.replied l h 26 (.refused .level) []))
      ∧ (effectiveLevel l h ≤ 2 → s.regime.drill = false ∨ s.unconfigured = true →
        endDrill = .next (s.replied l h 26 (.refused .state) []))
      ∧ (1 < effectiveLevel l h → stand = .next (s.replied l h 28 (.refused .level) []))
      ∧ (effectiveLevel l h ≤ 1 → ¬ fire ∨ s.unconfigured = true →
        stand = .next (s.replied l h 28 (.refused .state) []))
      ∧ (effectiveLevel l h ≤ 1 → fire → s.unconfigured = false → ∀ x rest, s.activePoints = x :: rest →
        stand = .next (s.replied l h 28 (.refused .pointsActive)
          (b2 (rest.length + 1) ++ b1 (portNumber x.1) ++ b2 x.2)))
      ∧ (s.pointsSound → (s.activePoints.map fun x => pointKey x.1 x.2).Pairwise (· < ·)
        ∧ ∀ p n, 1 ≤ n ∧ n ≤ 1023 → ((p, n) ∈ s.activePoints
          ↔ (s.point p n).condition = .alarm ∧ ∀ z, s.translate p n ≠ .isolated z))
      ∧ (s.queueSound → fire → s.unconfigured = false →
        (s.regime.drill = true → effectiveLevel l h ≤ 2 → down endDrill 26)
          ∧ (effectiveLevel l h ≤ 1 → s.activePoints = [] → down stand 28))

/-- R66, R78, R79, R80, R83, R109, R113, R130, R133, R144, R147, R151: a drill started in NORMAL sets the drill flag, takes the lifts-included
flag, opens one drill incident on its floor, and makes the regime ALARM; the floors of its core are in EVACUATE or DEFEND
with the core flag, every other floor in use is queued in the order of R79 or was promoted from the head, and all have their
message. With the lifts every car in AUTO
runs to its recall floor; without them no car changes. The doors take demand and the tenant programs are suspended. No
point is touched. At level 3 it is LEVEL, in another regime STATE, and a floor not in use is UNKNOWN. (Of two failed checks
STATE stands before UNKNOWN by the model's reading, notes/assumptions/9.md; the tenth at which a hold timer is due, 1.md.) -/
def Obligations.DrillStart : Prop :=
  ∀ (l : Link) (h : Header) (f : Nat) (lifts : Bool) (s : State), s.free l → s.canonical → s.regime.sound →
    let start := exec (.startDrill l h (some ⟨f, lifts⟩)) s
    (2 < effectiveLevel l h → start = .next (s.replied l h 25 (.refused .level) []))
      ∧ (effectiveLevel l h ≤ 2 → s.regime.regime ≠ .normal ∨ s.unconfigured = true →
        start = .next (s.replied l h 25 (.refused .state) []))
      ∧ (effectiveLevel l h ≤ 2 → s.regime.regime = .normal → s.unconfigured = false → s.fc ≤ f →
        start = .next (s.replied l h 25 (.refused .unknown) []))
      ∧ (effectiveLevel l h ≤ 2 → s.regime.regime = .normal → s.unconfigured = false → f < s.fc → s.queueSound →
        ∃ t, start = .next t ∧ t.answered l h 25 (.done false false) (b1 s.regime.nextNumber)
          ∧ t.regime = { regime := .alarm, drill := true, liftsIncluded := lifts, relockComplete := false
                         nextNumber := if s.regime.nextNumber = 255 then 1 else s.regime.nextNumber + 1
                         incidents :=
                          [{ number := s.regime.nextNumber, zone := 0, kind := .floor, latched := none, first := f
                             count := 1, origin := none, opened := s.now, points := 0, clear := false
                             stale := false, drill := true }] }
          ∧ s.coreSent t f 1 ∧ s.othersTaken t f 1
          ∧ (∀ g, g < s.fc → (t.floor g).phase ≠ .normal)
          ∧ (lifts = true → s.autosRun t) ∧ (lifts = false → t.lifts.cars = s.lifts.cars)
          ∧ (s.doorsSound → s.demandBegun t)
          ∧ (s.audioSound → t.audio.served ∧ s.speaks t ∧ s.tenantsSilenced t)
          ∧ s.onlyChanges t [.orders, .regime, .evac, .stairs, .lifts, .doors, .audio, .links])

/-- R58, R63, R64, R65, R78, R79, R80, R89, R101, R109, R119, R120, R130, R131, R144, R147: RELATCH takes the map as it stands
into an incident. It needs level 2 and a building record; an unknown number, the drill incident and an isolated answer are
refused UNKNOWN, STATE and ISOLATED. Otherwise the incident takes the answer; where another open incident has its identity the
two become one under the lower number, with the earlier opening, the sum of their points, and every point of the removed
record given the remaining number. The core of the answer's floors is in EVACUATE or DEFEND afterwards and the queue keeps its
order; a kind STAIR has its stair compromised and a kind SHAFT its shaft flag set; no run is left at a barred floor; the regime
is GENERAL by THRESHOLD exactly when the first floors reach the threshold in ALARM; the doors keep their demand and the floors
that have changed have their messages. (The layout of the incident in the reply is the model's, notes/assumptions/10.md.) -/
def Obligations.Relatching : Prop :=
  ∀ (l : Link) (h : Header) (n : Nat) (i : Incident) (s : State),
    s.free l → s.canonical → s.regime.sound → s.pointsSound →
      let relatch := exec (.relatch l h (some n)) s
      let takes := effectiveLevel l h ≤ 2 ∧ s.unconfigured = false
      (2 < effectiveLevel l h → relatch = .next (s.replied l h 23 (.refused .level) []))
        ∧ (effectiveLevel l h ≤ 2 → s.unconfigured = true → relatch = .next (s.replied l h 23 (.refused .state) []))
        ∧ (takes → s.regime.find n = none → relatch = .next (s.replied l h 23 (.refused .unknown) []))
        ∧ (takes → s.regime.find n = some i → i.origin = none → relatch = .next (s.replied l h 23 (.refused .state) []))
        ∧ ∀ p m, takes → s.regime.find n = some i → i.origin = some (p, m) →
          (∀ z, s.translate p m = .isolated z → relatch = .next (s.replied l h 23 (.refused .isolated) []))
            ∧ ∀ r, (s.translate p m = .located r ∨ ∃ why, s.translate p m = .unlocated why r) →
              let taken (k : Incident) : Incident :=
                { k with zone := r.zone, kind := r.kind, latched := r.latched, first := r.first, count := r.count
                         stale := false }
              let others := s.regime.incidents.filter fun j => j.number ≠ n ∧ j.zone = r.zone ∧ j.first = r.first
              ∃ t, relatch = .next t
                ∧ s.coreSent t r.first r.count ∧ (s.queueSound → s.othersTaken t r.first r.count)
                ∧ (∀ x, r.kind = .stair x → (t.stairs.stair x).compromised = true)
                ∧ (∀ b, r.kind = .shaft b → (t.lifts.bank b).shaft = true)
                ∧ s.thresholdTested t s.regime.regime
                ∧ t.redirected ∧ (s.doorsSound → s.demandKept t) ∧ (s.audioSound → t.audio.served ∧ s.speaks t)
                ∧ (others = [] →
                  t.regime.incidents = s.regime.incidents.map (fun j => if j.number = n then taken j else j)
                    ∧ t.answered l h 23 (.done false false) (cutBody (taken i).items) ∧ t.panel = s.panel)
                ∧ ∀ j rest, others = j :: rest →
                  let low := if i.number < j.number then i else j
                  let high := if i.number < j.number then j else i
                  let one : Incident := { taken low with
                    opened := if later low.opened high.opened then high.opened else low.opened
                    points := low.points + high.points, clear := decide (low.points + high.points = 0) }
                  t.regime.find low.number = some one ∧ t.regime.find high.number = none
                    ∧ (∀ k, k ≠ low.number → k ≠ high.number → t.regime.find k = s.regime.find k)
                    ∧ t.answered l h 23 (.done false false) (cutBody one.items)
                    ∧ ∀ q k, 1 ≤ k ∧ k ≤ 1023 → t.point q k =
                      if (s.point q k).incident = high.number then { s.point q k with incident := low.number }
                      else s.point q k

/-! ## Points -/

/-- R15, R20, R23, R24, R42 to R45, R55 to R59, R78 to R80, R83, R89, R101, R109, R113, R119, R120, R130 to R133, R144, R147, R151:
a point event of a
SERIAL port that is not UNSUPERVISED. An unchanged condition writes nothing; a change into or out of FAULT is reported; a new
ALARM is sheltered by isolation, extends the live incident of its identity, opens one, or finds the list full; the end of an
alarm takes it off its incident's count. While UNCONFIGURED an alarm is reported not acted on and its end is not passed on. A
new incident takes the next number not in use, sends its core, and from NORMAL and STANDDOWN alerts the other floors in order,
each with its hold deadline; the regime is GENERAL by THRESHOLD exactly when the first floors reach the threshold in ALARM. One
of kind STAIR compromises its stair, one of kind SHAFT sets the shaft flag of its bank; the runs leave barred
floors, and where it makes a fire regime or ends a drill every car in AUTO is recalled; the doors take demand or keep it; the
floors that have changed have their messages, and a regime that leaves NORMAL suspends the tenant programs. A record on a
CONTACT or an UNSUPERVISED port, for no point, or discarded as malformed changes nothing. (The tenth at which a hold timer is
due is the model's choice, notes/assumptions/1.md.) -/
def Obligations.AlarmTaken : Prop :=
  ∀ (p : Port) (n : Nat) (s : State), s.canonical →
    (exec (.panelRecordDiscarded p) s = .next s)
      ∧ ((s.portRec p).mode = .contact ∨ (s.port p).state = .unsupervised ∨ n < 1 ∨ 1023 < n →
        ∀ c, exec (.pointEvent p n c) s = .next s)
      ∧ ((s.portRec p).mode = .serial → (s.port p).state ≠ .unsupervised → 1 ≤ n → n ≤ 1023 →
        let old := s.point p n
        let named : PortLive := { s.port p with
          resync := (s.port p).resync.map fun r => { r with named := insertNat n r.named } }
        let takes (c : PanelCondition) (is : State → Prop) :=
          ∃ t, exec (.pointEvent p n c) s = .next t ∧ t.port p = named ∧ (∀ q, q ≠ p → t.port q = s.port q)
            ∧ s.otherPoints t p n ∧ is t
        (∀ c, panelCondition c = old.condition → takes c fun t =>
            t.panel.points = s.panel.points ∧ s.onlyChanges t [.panel])
          ∧ ∀ c, panelCondition c ≠ old.condition → takes c fun t =>
            s.conditionChanges t p n (panelCondition c) false)

/-- R20, R21, R22, R56 to R59: a change of the measured class of a contact input makes it the candidate with the debounce timer
started afresh, or, back at the held class, discards the candidate. At the expiry the candidate is held, and the point's
condition and short flag follow it; a change of condition does all that AlarmTaken says of it, and a change between ALARM and
SHORT touches nothing but the flag and the time. On a SERIAL port and for an input outside 1 to 32 neither does anything.
(That the candidate's own class measured again starts the timer afresh, and that the time of a measurement is a seconds count,
are the model's readings, notes/assumptions/32.md; the tenth at which a hold timer is due is its choice, 1.md.) -/
def Obligations.ContactDebounce : Prop :=
  ∀ (p : Port) (i : Nat) (c : LineClass) (s : State), s.canonical →
    ((s.portRec p).mode = .serial ∨ i < 1 ∨ 32 < i →
        exec (.measuredClassChange p i c) s = .next s ∧ exec (.debounceExpiry p i) s = .next s)
      ∧ ((s.portRec p).mode = .contact → 1 ≤ i → i ≤ 32 →
        let x := (s.port p).input i
        let old := s.point p i
        (∃ t, exec (.measuredClassChange p i c) s = .next t
            ∧ (t.port p).input i = { held := x.held
                                     candidate := if c = x.held then none else
                                      some { cls := c, measured := s.now
                                             due := s.clock + (s.portRec p).debounce } }
            ∧ (∀ j, j ≠ i → (t.port p).input j = (s.port p).input j) ∧ (∀ q, q ≠ p → t.port q = s.port q)
            ∧ { t.port p with inputs := (s.port p).inputs } = s.port p
            ∧ t.panel.points = s.panel.points ∧ s.onlyChanges t [.panel])
          ∧ (x.candidate = none → exec (.debounceExpiry p i) s = .next s)
          ∧ ∀ d, x.candidate = some d →
            let new : Condition := match d.cls with
              | .normal => .normal | .alarm => .alarm | .shorted => .alarm | .opened => .fault
            let short := decide (d.cls = .shorted)
            ∃ t, exec (.debounceExpiry p i) s = .next t
              ∧ (t.port p).input i = { held := d.cls, candidate := none }
              ∧ (∀ j, j ≠ i → (t.port p).input j = (s.port p).input j) ∧ (∀ q, q ≠ p → t.port q = s.port q)
              ∧ { t.port p with inputs := (s.port p).inputs } = s.port p
              ∧ s.otherPoints t p i
              ∧ (t.point p i).condition = new
              ∧ (old.condition ≠ new ∨ old.short ≠ short →
                (t.point p i).short = short ∧ (t.point p i).changed = s.now)
              ∧ (old.condition = new → s.onlyChanges t [.panel]
                ∧ t.point p i = if old.short = short then old else { old with short := short, changed := s.now })
              ∧ (old.condition ≠ new → s.conditionChanges t p i new short))

/-- R23, R25, R26, R27: the polls of a SERIAL port. The poll timer's expiry sends a poll and starts both timers. An answer to an
outstanding poll ends it and sets the count to 0; on a port that was STARTING or UNSUPERVISED it starts a
resynchronisation. An answer timer's expiry raises the count, and the third makes the port UNSUPERVISED with its
resynchronisation and reset abandoned and its points as they stand. An answer with no poll outstanding is discarded. On a
CONTACT port none of the three does anything. -/
def Obligations.PollExchange : Prop :=
  ∀ (p : Port) (s : State), s.canonical →
    let x := s.port p
    ((s.portRec p).mode = .contact → exec (.pollTimerExpiry p) s = .next s ∧ exec (.pollAnswer p) s = .next s
        ∧ exec (.answerTimerExpiry p) s = .next s)
      ∧ ((s.portRec p).mode = .serial → (x.pollTimer ≠ none →
          ∃ t, exec (.pollTimerExpiry p) s = .next t ∧ t.orders = s.orders ++ [.poll p]
            ∧ s.onlyChanges t [.orders, .panel]
            ∧ s.onlyPort t p { x with pollTimer := some (s.clock + (s.portRec p).supervision * 10)
                                      answerTimer := some (s.clock + 10) })
        ∧ (x.answerTimer = none → exec (.pollAnswer p) s = .next s ∧ exec (.answerTimerExpiry p) s = .next s)
        ∧ (x.answerTimer ≠ none →
          (∃ t, exec (.pollAnswer p) s = .next t
              ∧ (x.state = .supervised ∨ x.state = .resetting →
                s.onlyPort t p { x with answerTimer := none, missed := 0 } ∧ s.onlyChanges t [.panel])
              ∧ (x.state = .starting ∨ x.state = .unsupervised →
                s.onlyPort t p { x with answerTimer := none, missed := 0, state := .supervised
                                        resync := some { named := [], timer := s.clock + 100 } }
                  ∧ t.orders = s.orders ++ [.listRequest p] ∧ s.onlyChanges t [.orders, .panel, .links]
                  ∧ t.links = if x.state = .unsupervised then (s.report (.portSupervised p)).links else s.links))
            ∧ ∃ t, exec (.answerTimerExpiry p) s = .next t
              ∧ let missed := min 3 (x.missed + 1)
                (missed < 3 ∨ x.state = .unsupervised →
                    s.onlyPort t p { x with answerTimer := none, missed := missed } ∧ s.onlyChanges t [.panel])
                  ∧ (missed = 3 → x.state ≠ .unsupervised →
                    s.onlyPort t p { x with answerTimer := none, missed := 3, state := .unsupervised, resync := none
                                            resetTimer := none }
                      ∧ s.onlyChanges t [.panel, .links]
                      ∧ t.links = (s.reportAll (.portUnsupervised p
                        :: if x.state = .resetting then [.resetAbandoned p] else [])).links)))

/-- R20, R28, R29, R56 to R59: a list record of a resynchronisation names its point, restarts the timer for 10 s and brings the
point to its condition, with all that AlarmTaken says of such a change; the list end brings to NORMAL every point of the port
that was not named, ends its alarm with its incident, and ends the resynchronisation; the timer's expiry repeats it with the
named set emptied. Points of other ports stay. With no resynchronisation in progress, and on a CONTACT port, none of the three
does anything. (That a list record with a point outside 1 to 1023 leaves the timer as it runs is the model's choice,
notes/assumptions/40.md, and so is the tenth at which a hold timer is due, 1.md.) -/
def Obligations.Resynchronisation : Prop :=
  ∀ (p : Port) (n : Nat) (s : State), s.canonical →
    ((s.portRec p).mode = .contact ∨ (s.port p).resync = none →
        (∀ c, exec (.listRecord p n c) s = .next s) ∧ exec (.listEnd p) s = .next s
          ∧ exec (.resyncTimerExpiry p) s = .next s)
      ∧ ∀ r : Resync, (s.portRec p).mode = .serial → (s.port p).resync = some r →
        (n < 1 ∨ 1023 < n → ∀ c, exec (.listRecord p n c) s = .next s)
          ∧ (1 ≤ n → n ≤ 1023 → ∀ c, ∃ t, exec (.listRecord p n c) s = .next t
            ∧ t.port p = { s.port p with resync := some { named := insertNat n r.named, timer := s.clock + 100 } }
            ∧ (∀ q, q ≠ p → t.port q = s.port q) ∧ s.otherPoints t p n
            ∧ (t.point p n).condition = listCondition c
            ∧ (listCondition c = (s.point p n).condition → s.onlyChanges t [.panel] ∧ t.point p n = s.point p n)
            ∧ (listCondition c ≠ (s.point p n).condition → s.conditionChanges t p n (listCondition c) false))
          ∧ (∃ t, exec (.listEnd p) s = .next t ∧ t.port p = { s.port p with resync := none }
            ∧ (∀ q, q ≠ p → t.port q = s.port q) ∧ s.onlyChanges t [.panel, .regime, .links]
            ∧ t.regime.regime = s.regime.regime
            ∧ (∀ m, 1 ≤ m ∧ m ≤ 1023 →
              let old := s.point p m
              t.point p m = if m ∈ r.named ∨ old.condition = .normal then old else
                { condition := .normal, short := false, changed := s.now
                  incident := if old.condition = .alarm ∧ s.unconfigured = false then 0 else old.incident })
            ∧ (∀ q m, q ≠ p → 1 ≤ m ∧ m ≤ 1023 → t.point q m = s.point q m)
            ∧ (s.unconfigured = true → t.regime = s.regime)
            ∧ (s.unconfigured = false → s.regime.sound → s.pointsSound →
              let ended (i : Incident) := ((s.panel.portPoints p (· == .alarm)).filter fun m =>
                !r.named.contains m && (s.point p m).incident == i.number).length
              t.regime = { s.regime with
                incidents := s.regime.incidents.map fun i =>
                  if ended i = 0 then i
                  else { i with points := i.points - ended i, clear := decide (i.points - ended i = 0) } }))
          ∧ ∃ t, exec (.resyncTimerExpiry p) s = .next t
            ∧ s.onlyPort t p { s.port p with resync := some { named := [], timer := s.clock + 100 } }
            ∧ t.orders = s.orders ++ [.listRequest p] ∧ s.onlyChanges t [.orders, .panel, .links]
            ∧ t.links = (s.report (.resyncRepeated p)).links

/-- R30, R31, R32: PANEL_RESET needs level 1 and a SERIAL port that is SUPERVISED; it sends the reset order, abandons a
resynchronisation and starts the reset timer for 30 s. Reset done, or that timer's expiry, makes the port SUPERVISED with
its own report and a resynchronisation; a reset done on a port that is not RESETTING is discarded. A port number outside 1 to
4 is UNKNOWN. -/
def Obligations.PanelReset : Prop :=
  ∀ (l : Link) (h : Header) (p : Port) (k : Nat) (s : State), s.free l → s.canonical →
    let x := s.port p
    let reset := exec (.panelReset l h (some (portNumber p))) s
    (1 < effectiveLevel l h → reset = .next (s.replied l h 24 (.refused .level) []))
      ∧ (effectiveLevel l h ≤ 1 → s.unconfigured = false → k < 1 ∨ 4 < k →
        exec (.panelReset l h (some k)) s = .next (s.replied l h 24 (.refused .unknown) []))
      ∧ (effectiveLevel l h ≤ 1 → s.unconfigured = true ∨ (s.portRec p).mode = .contact ∨ x.state ≠ .supervised →
        reset = .next (s.replied l h 24 (.refused .state) []))
      ∧ (effectiveLevel l h ≤ 1 → s.unconfigured = false → (s.portRec p).mode = .serial → x.state = .supervised →
        ∃ t, reset = .next t ∧ t.answered l h 24 (.done false false) []
          ∧ t.orders = s.orders ++ [.resetOrder p]
          ∧ s.onlyPort t p { x with state := .resetting, resync := none, resetTimer := some (s.clock + 300) }
          ∧ s.onlyChanges t [.orders, .panel, .links])
      ∧ (x.state ≠ .resetting → exec (.resetDone p) s = .next s ∧ exec (.resetTimerExpiry p) s = .next s)
      ∧ ((s.portRec p).mode = .serial → x.state = .resetting →
        let back (c : Instr) (r : Report) :=
          ∃ t, exec c s = .next t ∧ t.orders = s.orders ++ [.listRequest p]
            ∧ s.onlyPort t p { x with state := .supervised, resetTimer := none
                                      resync := some { named := [], timer := s.clock + 100 } }
            ∧ s.onlyChanges t [.orders, .panel, .links] ∧ t.links = (s.report r).links
        back (.resetDone p) (.resetDone p) ∧ back (.resetTimerExpiry p) (.resetTimedOut p))

/-! ## Stairs -/

/-- R96, R97, R98: the shares of an occupancy over a candidate set are whole, add up to it, and each lies within one person of its
part by weight, a heavier stair (or an equal one of earlier letter) never going without a person of the remainder that a
lighter takes; the fit test asks that no share but 0 carry its stair past its capacity; a commit adds each share, stops at 4095,
and sets the saturated flag where it stopped. -/
def Obligations.SharesFitAndCommit : Prop :=
  (∀ (o : Nat) (ws : List (Stair × Nat)), ws ≠ [] → (ws.map (·.1)).Nodup → (∀ w ∈ ws, 1 ≤ w.2 ∧ w.2 ≤ 4) →
      let total := (ws.map (·.2)).sum
      let part (w : Stair × Nat) := o * w.2 / total
      (shares o ws).map (·.1) = ws.map (·.1)
        ∧ ((shares o ws).map (·.2)).sum = o
        ∧ ∀ w ∈ ws, ∃ e : Nat, e ≤ 1 ∧ (w.1, part w + e) ∈ shares o ws
          ∧ ∀ v ∈ ws, v.2 > w.2 ∨ (v.2 = w.2 ∧ stairNumber v.1 < stairNumber w.1) → (v.1, part v + e) ∈ shares o ws
            ∨ (v.1, part v + 1) ∈ shares o ws)
    ∧ (∀ (s : State) (sh : List (Stair × Nat)), s.fits sh = true ↔
        ∀ x ∈ sh, x.2 ≠ 0 → ∃ r, s.stairRec x.1 = some r ∧ (s.stairs.stair x.1).load + x.2 ≤ r.capacity)
    ∧ ∀ (s : State) (f : Nat) (sh : List (Stair × Nat)), s.canonical → (sh.map (·.1)).Nodup →
        let t := s.onStairs (commitShares s f sh)
        s.onlyChanges t [.stairs, .links] ∧ t.stairs.drainTimer = s.stairs.drainTimer
          ∧ (∀ x, x ∉ sh.map (·.1) → t.stairs.stair x = s.stairs.stair x)
          ∧ ∀ x ∈ sh, t.stairs.stair x.1
            = { load := min 4095 ((s.stairs.stair x.1).load + x.2)
                saturated := (s.stairs.stair x.1).saturated || decide (4095 < (s.stairs.stair x.1).load + x.2)
                compromised := (s.stairs.stair x.1).compromised }

/-- R100: the clear time is 0 at load 0, else the load divided by the drain rate and rounded up, times the drain interval,
at most 65535. QUERY stair carries it in bytes 14 and 15 of its body (the model's layout, notes/assumptions/10.md), and every
STAIR report carries it, worked out from the
stair as it stands when the report is queued. -/
def Obligations.ClearTime : Prop :=
  (∀ (load rate interval : Nat), 1 ≤ rate →
      clearTime load rate interval = (if load = 0 then 0 else min 65535 ((load + rate - 1) / rate * interval)))
    ∧ ∀ (s : State) (x : Stair) (r : StairRec) (b : Building),
        s.stairRec x = some r → s.desc.building.building = some b →
        let clear := clearTime (s.stairs.stair x).load r.drain b.drainInterval
        (∀ (l : Link) (h : Header), s.free l →
            ∃ t, exec (.queryStair l h (some (stairNumber x))) s = .next t
              ∧ ((t.link l).reply.map fun y => (y.body.drop 14).take 2) = some (b2 clear))
          ∧ (∀ mk, s.stairReport x mk = s.report (mk (s.stairs.stair x).load clear))
          ∧ (∀ (f n : Nat), 4095 < (s.stairs.stair x).load + n → (s.stairs.stair x).saturated = false →
            (commitShare s f ⟨s.stairs, [], []⟩ (x, n)).reports
              = [.stairSaturated x 4095 (clearTime 4095 r.drain b.drainInterval) f
                  ((s.stairs.stair x).load + n - 4095)])
          ∧ (0 < (s.stairs.stair x).load → (s.stairs.stair x).load ≤ r.drain → (s.stairs.stair x).saturated = true →
            (drainStair s ⟨s.stairs, [], []⟩ x).reports
              = [.saturationEnded x 0 (clearTime 0 r.drain b.drainInterval)])

/-- R99, R82: a drain expiry takes its drain rate off every present stair, ends the saturation of one that reaches 0, and starts the
timer again for the interval of the building record; then the head of the queue is tested, and promoted where it now fits.
With no drain timer running nothing happens. -/
def Obligations.DrainExpiry : Prop :=
  ∀ s : State, s.canonical →
    (s.stairs.drainTimer = none → exec .drainTimerExpiry s = .next s)
      ∧ (s.stairs.drainTimer ≠ none →
        let drained (x : Stair) : StairLive := match s.stairRec x with
          | none => s.stairs.stair x
          | some r => { s.stairs.stair x with
              load := (s.stairs.stair x).load - r.drain
              saturated := (s.stairs.stair x).saturated
                && !decide ((s.stairs.stair x).load ≠ 0 ∧ (s.stairs.stair x).load ≤ r.drain) }
        let s1 := s.onStairs (drainAll s)
        (∀ x, s1.stairs.stair x = drained x)
          ∧ s1.stairs.drainTimer = some (s.clock + s.figure (·.drainInterval) * 10)
          ∧ s.onlyChanges s1 [.stairs, .links]
          ∧ ∃ t, exec .drainTimerExpiry s = .next t
            ∧ t.stairs.drainTimer = s1.stairs.drainTimer
            ∧ s.onlyChanges t [.orders, .evac, .stairs, .doors, .audio, .links]
            ∧ (s.head = none → t.evac = s.evac ∧ t.stairs = s1.stairs)
            ∧ ∀ f, s.head = some f →
              (s1.passesHeadTest f → t.floor f = s1.promoted f ∧ ∀ e ∈ t.evac.queue, e.floor ≠ f)
                ∧ (¬ s1.passesHeadTest f → t.evac = s.evac ∧ t.stairs = s1.stairs))

/-- R102, R103, R104: STAIR_USE writes the in-use flag and gives the stair's availability. A stair that becomes unavailable leaves
every route, and a floor it leaves without a stair is in DEFEND; one that becomes available brings every DEFEND floor it
serves to EVACUATE; with the availability as it was no floor changes. A stair without a record, or a stair number outside 1 to
4, is UNKNOWN. (That the availability is carried as a flag is the model's choice, notes/assumptions/10.md.) -/
def Obligations.StairUseRule : Prop :=
  ∀ (l : Link) (h : Header) (w : StoreWrite) (st : Stair) (k : Nat) (inUse : Bool) (s : State),
    s.free l → effectiveLevel l h ≤ 2 → s.unconfigured = false → s.canonical → s.queueSound →
      let use := exec (.stairUse l h w (some ⟨stairNumber st, inUse⟩)) s
      let clear := !(s.stairs.stair st).compromised
      (k < 1 ∨ 4 < k → exec (.stairUse l h w (some ⟨k, inUse⟩)) s = .next (s.replied l h 22 (.refused .unknown) []))
        ∧ (s.stairRec st = none → use = .next (s.replied l h 22 (.refused .unknown) []))
        ∧ ∀ r, s.stairRec st = some r →
          ∃ t, use = .next t ∧ t.answered l h 22 (.done false (notKept w)) (bflag (inUse && clear))
            ∧ sameButAt s.desc.building.stairs t.desc.building.stairs (stairNumber st) (some { r with inUse := inUse })
            ∧ { t.desc.building with stairs := s.desc.building.stairs } = s.desc.building
            ∧ s.onlyBuilding t ∧ s.wroteGroup t .building w
            ∧ (r.inUse = inUse → s.onlyChanges t [.store, .desc, .links])
            ∧ (clear = false → t.evac = s.evac ∧ t.stairs = s.stairs)
            ∧ (clear = true → r.inUse = true → inUse = false →
              (∀ f list, f < s.fc → (t.floor f).phase = .evacuate → (t.floor f).route = .stairs list → st ∉ list)
                ∧ ∀ f, f < s.fc → (s.floor f).phase = .evacuate → (s.floor f).route = .stairs [st] →
                  (t.floor f).phase = .defend ∧ (t.floor f).route = .empty
                    ∧ (t.floor f).shares = (s.floor f).shares)
            ∧ (clear = true → r.inUse = false → inUse = true →
              ∀ f, f < s.fc → (s.floor f).phase = .defend → r.low ≤ f → f ≤ r.high →
                (t.floor f).phase = .evacuate)

/-! ## Floors -/

/-- R81, R84, R86, R87, R88: the three targets of FLOOR_COMMAND with their checks, and the expiry of a hold timer. EVACUATE and the
expiry promote the floor forced; DEFEND holds it, its shares and core flag kept; ALERT puts it at the tail of the queue, from
where it goes on at once if it heads the queue and passes the head test. Unless the floor headed the queue, or the queue was
empty at an ALERT, every other floor stays as it was and the others keep their order. (The model's choices: the reply's route
field, notes/assumptions/10.md; a floor in NORMAL or STANDDOWN is taken too, 20.md; the tenth at which a hold timer is due, 1.md.) -/
def Obligations.FloorCommands : Prop :=
  ∀ (l : Link) (h : Header) (f : Nat) (s : State), s.free l → s.canonical →
    let evacuate := exec (.floorCommandEvacuate l h (some f)) s
    let defend := exec (.floorCommandDefend l h (some f)) s
    let alert := exec (.floorCommandAlert l h (some f)) s
    let refused (r : Reason) := Host.Outcome.next (s.replied l h 29 (.refused r) [])
    let fire := s.regime.regime = .alarm ∨ s.regime.regime = .general
    let accepts (t : State) := t.answered l h 29 (.done false false)
      (b1 (t.floor f).phase.ctorIdx ++ routeField (t.floor f).route
        ++ opt1 ((t.evac.queue.findIdx? fun e => e.floor == f).map (· + 1)))
    let others (t : State) := (∀ g, g ≠ f → t.floor g = s.floor g) ∧ t.evac.queue = s.queueWithout f
    let rest (t : State) := s.onlyChanges t [.orders, .evac, .stairs, .doors, .audio, .links]
    (1 < effectiveLevel l h → evacuate = refused .level ∧ defend = refused .level ∧ alert = refused .level)
      ∧ (effectiveLevel l h ≤ 1 → s.unconfigured = true ∨ ¬ fire →
        evacuate = refused .state ∧ defend = refused .state ∧ alert = refused .state)
      ∧ (effectiveLevel l h ≤ 1 → s.unconfigured = false → fire → s.fc ≤ f →
        evacuate = refused .unknown ∧ defend = refused .unknown ∧ alert = refused .unknown)
      ∧ (effectiveLevel l h ≤ 1 → s.unconfigured = false → fire → f < s.fc →
        (∃ t, evacuate = .next t ∧ accepts t ∧ rest t
            ∧ ((s.floor f).phase = .evacuate → s.onlyChanges t [.links])
            ∧ ((s.floor f).phase ≠ .evacuate →
              t.floor f = s.promoted f ∧ (∀ e ∈ t.evac.queue, e.floor ≠ f) ∧ (s.head ≠ some f → others t)))
          ∧ (∃ t, defend = .next t ∧ accepts t ∧ rest t
            ∧ ((s.floor f).phase = .defend → s.onlyChanges t [.links])
            ∧ ((s.floor f).phase ≠ .defend →
              t.floor f = { s.floor f with phase := .defend, route := .empty, phaseTime := s.now }
                ∧ (∀ e ∈ t.evac.queue, e.floor ≠ f)
                ∧ (s.head ≠ some f → others t ∧ t.stairs = s.stairs)))
          ∧ (s.regime.regime = .general → alert = refused .state)
          ∧ (s.regime.regime = .alarm → (∃ i ∈ s.regime.incidents, i.covers f = true) → alert = refused .inIncident)
          ∧ (s.regime.regime = .alarm → (∀ i ∈ s.regime.incidents, i.covers f = false) →
            ∃ t, alert = .next t ∧ accepts t ∧ rest t
              ∧ ((s.floor f).phase = .alert → s.onlyChanges t [.links])
              ∧ ((s.floor f).phase ≠ .alert →
                (∀ g, g ≠ f → t.floor g = s.floor g)
                  ∧ (s.evac.queue ≠ [] ∨ ¬ s.passesHeadTest f →
                    t.floor f = { s.floor f with phase := .alert, core := false, route := .empty
                                                 phaseTime := s.now }
                      ∧ t.stairs = s.stairs
                      ∧ t.evac.queue = s.evac.queue ++ [{ floor := f, entry := s.now
                                                          deadline := addSeconds s.now (s.figure (·.holdMax))
                                                          timer := s.clock + s.figure (·.holdMax) * 10 }])
                  ∧ (s.evac.queue = [] → s.passesHeadTest f → (t.floor f).sent ∧ t.evac.queue = []))))
      ∧ ((∀ e ∈ s.evac.queue, e.floor ≠ f) → exec (.holdTimerExpiry f) s = .next s)
      ∧ ((∃ e ∈ s.evac.queue, e.floor = f) →
        ∃ t, exec (.holdTimerExpiry f) s = .next t ∧ rest t ∧ t.floor f = s.promoted f
          ∧ (∀ e ∈ t.evac.queue, e.floor ≠ f) ∧ (s.head ≠ some f → others t))

/-! ## Cars -/

/-- R114, R121, R122: CAR_COMMAND RECALL gives a car in AUTO, PARKED or RECALLING a fresh run from its position to its bank's recall
floor in a recall regime; RETURN takes a car out of FAULTED or SHUTDOWN, into a run in a recall regime, else to AUTO with
RELEASE. What they are refused for is refused STATE, LEVEL or UNKNOWN. No other car changes. (That a car returned before its
first record after a silence is not sent the second HOLD of R111, its holdAgain cleared, is the model's choice,
notes/assumptions/41.md.) -/
def Obligations.CarCommands : Prop :=
  ∀ (l : Link) (h : Header) (n : Nat) (s : State), s.free l → s.unconfigured = false → s.canonical → s.carsSound →
    let fresh := exec (.carCommandRecall l h (some n)) s
    let back := exec (.carCommandReturn l h (some n)) s
    let refused (r : Reason) := Host.Outcome.next (s.replied l h 31 (.refused r) [])
    (1 < effectiveLevel l h → fresh = refused .level ∧ back = refused .level)
      ∧ (effectiveLevel l h ≤ 1 → s.lifts.cars.get n = none → fresh = refused .unknown ∧ back = refused .unknown)
      ∧ ∀ c k r, effectiveLevel l h ≤ 1 → s.lifts.cars.get n = some c → s.carBank n = some (k, r) →
        let held := c.state = .faulted ∨ c.state = .shutdown
        let target := if (s.lifts.bank k).pBarred then r.q else r.p
        let budget (p : Nat) := (p - target) + (target - p) + s.figure (·.recallMargin)
        let run (p : Nat) : Run := { target := target, budget := budget p, passes := 0, parkTimer := none, redirects := 0
                                     travelTimer := some (s.clock + budget p * s.figure (·.travelTime) * 10)
                                     start := s.now }
        (s.regime.recalls = false ∨ c.awaiting = true ∨ held ∨ c.state = .firefighter ∨ c.state = .exempt →
            fresh = refused .state)
          ∧ (c.awaiting = true ∨ ¬ held → back = refused .state)
          ∧ ∀ p, c.position = some p → c.awaiting = false →
            (s.regime.recalls = true → c.state = .auto ∨ c.state = .parked ∨ c.state = .recalling →
              ∃ t, fresh = .next t ∧ t.answered l h 31 (.done false false) (b1 target ++ b1 (budget p))
                ∧ s.onlyCar t n { c with state := .recalling, cause := none, parked := none, run := some (run p) }
                ∧ t.orders = s.orders ++ [.recall n target] ∧ s.onlyChanges t [.orders, .lifts, .links])
              ∧ (s.regime.recalls = true → held →
                ∃ t, back = .next t ∧ t.answered l h 31 (.done false false) [1#8]
                  ∧ s.onlyCar t n { c with state := .recalling, cause := none, parked := none, run := some (run p)
                                           holdAgain := false }
                  ∧ t.orders = s.orders ++ [.recall n target] ∧ s.onlyChanges t [.orders, .lifts, .links])
              ∧ (s.regime.recalls = false → held →
                ∃ t, back = .next t ∧ t.answered l h 31 (.done false false) [0#8]
                  ∧ s.onlyCar t n { c with state := .auto, cause := none, parked := none, run := none
                                           holdAgain := false }
                  ∧ t.orders = s.orders ++ [.release n] ∧ s.onlyChanges t [.orders, .lifts, .links])

/-- R111, R112, R115, R116, R117, R118: the car poll, and what a status record, a silence, a travel timer and a park confirm timer
do to a car. A record restarts the silence timer and writes the fields; the table of R112 gives the state; in RECALLING it
counts the floors passed against the budget and parks the car at its target with doors open. A travel or a park confirm timer
that expires ends the run with HOLD and its one report. (The model's reading: a fault flag that leaves the state does not
hide the mode, notes/assumptions/18.md; those expiries queue no car state report, 21.md; a record that reports a floor out of
range is judged by that floor, 22.md; a car with no accepted position starts no run, 23.md; the polls of several cars stand in
the order of their numbers, 24.md; a run that a first record or a PARKED car's record starts is first acted on by the next,
41.md.) -/
def Obligations.CarEvents : Prop :=
  (∀ s : State, ∃ t, exec .carPoll s = .next t ∧ t.orders = s.orders ++ s.lifts.cars.keys.map .pollCar
      ∧ t.lifts = { s.lifts with pollTimer := s.clock + 5 } ∧ s.onlyChanges t [.orders, .lifts])
    ∧ ∀ (n : Nat) (x : CarStatus) (s : State), s.canonical → s.carsSound →
      (48 ≤ x.position ∨ s.lifts.cars.get n = none → exec (.carStatusRecord n x) s = .next s)
        ∧ (s.lifts.cars.get n = none → exec (.carSilenceExpiry n) s = .next s
          ∧ exec (.travelTimerExpiry n) s = .next s ∧ exec (.parkConfirmExpiry n) s = .next s)
        ∧ ∀ c, s.lifts.cars.get n = some c →
          (∀ k r, x.position < 48 → s.carBank n = some (k, r) →
            let near := decide (r.low ≤ x.position ∧ x.position ≤ r.high)
            let seen := near || c.position.isSome
            let position := if near then some x.position else c.position
            let fresh := c.awaiting || (c.state == .faulted && (c.cause == some .link || c.cause == some .controller)
              && !x.fault && s.regime.regime == .normal)
            ∃ t d, exec (.carStatusRecord n x) s = .next t ∧ s.onlyCar t n d ∧ s.onlyChanges t [.orders, .lifts, .links]
              ∧ d.silence = some (s.clock + 50) ∧ d.awaiting = false ∧ d.position = position
              ∧ d.reported = some x.position
              ∧ d.motion = some x.motion ∧ d.doors = some x.doors ∧ d.mode = some x.mode ∧ d.outOfRange = !near
              ∧ (fresh = true →
                d.state = (if x.fault then .faulted else match x.mode with
                  | .normal => if s.regime.recalls && seen then .recalling else .auto
                  | .fireKey => .firefighter
                  | .independent => .exempt
                  | .inspection => .exempt)
                  ∧ (x.fault = true → d.cause = some .controller))
              ∧ (fresh = false → ∀ new, tableState c.state x.fault x.mode (s.regime.recalls && seen) = some new →
                d.state = new ∧ (c.state ≠ .faulted → new = .faulted → d.cause = some .controller))
              ∧ (c.state = .parked → x.fault = false → x.mode = .normal →
                if c.parked = some x.position ∨ position = none then d.state = .parked ∧ d.parked = c.parked
                else d.state = .recalling)
              ∧ ∀ run, c.state = .recalling → c.run = some run → x.fault = false → x.mode = .normal →
                let moved := match c.position with
                  | some p => if near then (p - x.position) + (x.position - p) else 0
                  | none => 0
                (run.budget < run.passes + moved →
                    d.state = .faulted ∧ d.cause = some .equipCheck ∧ d.run = none
                      ∧ t.orders = s.orders ++ [.hold n])
                  ∧ (run.passes + moved ≤ run.budget →
                    (x.motion = .stopped → near = true → x.position = run.target → x.doors = .opened →
                      d.run = none ∧ d.parked = some run.target
                        ∧ if (s.lifts.bank k).shaft then d.state = .shutdown ∧ t.orders = s.orders ++ [.hold n]
                          else d.state = .parked ∧ t.orders = s.orders)
                      ∧ (x.motion = .stopped → near = true → x.position = run.target → x.doors = .closed →
                        d.state = .recalling ∧ t.orders = s.orders
                          ∧ d.run = some { run with
                            passes := run.passes + moved
                            parkTimer := some (run.parkTimer.getD (s.clock + s.figure (·.parkConfirm) * 10)) })
                      ∧ (x.motion = .stopped → near = false ∨ x.position ≠ run.target →
                        d.state = .recalling
                          ∧ d.run = some { run with passes := run.passes + moved, parkTimer := none }
                          ∧ t.orders = s.orders ++
                            if c.motion = some .stopped ∧ c.reported = some x.position then []
                            else [.recall n run.target])
                      ∧ (x.motion ≠ .stopped →
                        d.state = .recalling ∧ t.orders = s.orders
                          ∧ d.run = some { run with passes := run.passes + moved, parkTimer := none })))
            ∧ (c.silence = none → exec (.carSilenceExpiry n) s = .next s)
            ∧ (c.silence ≠ none → ∃ t d, exec (.carSilenceExpiry n) s = .next t ∧ s.onlyCar t n d
              ∧ s.onlyChanges t [.orders, .lifts, .links] ∧ d.silence = none
              ∧ (c.awaiting = true ∨ c.state = .faulted ∨ c.state = .shutdown →
                d = { c with silence := none } ∧ t.orders = s.orders)
              ∧ (c.awaiting = false → c.state ≠ .faulted → c.state ≠ .shutdown →
                d.state = .faulted ∧ d.cause = some .link ∧ d.run = none ∧ t.orders = s.orders ++ [.hold n]))
            ∧ (c.run = none → exec (.travelTimerExpiry n) s = .next s ∧ exec (.parkConfirmExpiry n) s = .next s)
            ∧ ∀ run, c.run = some run →
              let ends (i : Instr) (why : FaultCause) := ∃ t, exec i s = .next t
                ∧ s.onlyCar t n { c with state := .faulted, cause := some why, parked := none, run := none }
                ∧ t.orders = s.orders ++ [.hold n]
                ∧ t.links = (s.report (.runEndedAbnormally n why c.position run.passes run.budget)).links
                ∧ s.onlyChanges t [.orders, .lifts, .links]
              (run.travelTimer ≠ none → ends (.travelTimerExpiry n) .equipCheck)
                ∧ (run.parkTimer ≠ none → ends (.parkConfirmExpiry n) .doors)

/-! ## Doors -/

/-- R130, R137, R138: the four actions of DOOR_COMMAND with their checks. FORCE gives the door class 0 and demand; HOLD ends its
demand and locks it; NORMAL clears the override and leaves the demand the general demand flag gives; RETRY takes a STUCK
door back to its waiting list. The reply gives the door's state, override and class. Where the action runs the arbiter the
door's section is settled afterwards, and no door of another section changes. (An absent class is all ones in the reply by
the model's choice, notes/assumptions/10.md.) -/
def Obligations.DoorCommands : Prop :=
  ∀ (l : Link) (h : Header) (x : DoorRef) (s : State), s.free l → s.unconfigured = false → s.canonical → s.doorsSound →
    let force := exec (.doorCommandForce l h (some x)) s
    let hold := exec (.doorCommandHold l h (some x)) s
    let normal := exec (.doorCommandNormal l h (some x)) s
    let retry := exec (.doorCommandRetry l h (some x)) s
    let refused (r : Reason) := Host.Outcome.next (s.replied l h 30 (.refused r) [])
    (1 < effectiveLevel l h →
        force = refused .level ∧ hold = refused .level ∧ normal = refused .level ∧ retry = refused .level)
      ∧ (effectiveLevel l h ≤ 1 → s.doorOf x = none →
        force = refused .unknown ∧ hold = refused .unknown ∧ normal = refused .unknown ∧ retry = refused .unknown)
      ∧ ∀ n d, effectiveLevel l h ≤ 1 → s.doorOf x = some n → s.doors.doors.get n = some d →
        let does (o : Host.Outcome State Fault Refusal) (is : DoorLive → Prop) :=
          ∃ t e, o = .next t ∧ t.doors.doors.get n = some e ∧ is e
            ∧ t.answered l h 30 (.done false false) (b1 e.state.ctorIdx ++ b1 e.override.ctorIdx ++ opt1 e.cls)
            ∧ s.otherSections t (s.doorSection n) ∧ s.onlyChanges t [.orders, .doors, .links]
        let settles (o : Host.Outcome State Fault Refusal) := ∃ t, o = .next t ∧ t.settled (s.doorSection n)
        does force (fun e => e.override = .forceReleased ∧ (d.override ≠ .forceReleased →
            (e.state = .waiting ∨ e.state = .releasing ∨ e.state = .released) ∧ e.cls = some 0
              ∧ e.demanded = (if d.state = .locked then some s.now else d.demanded)
              ∧ (d.state.granted = true → e.state = d.state ∧ e.granted = d.granted))
            ∧ (d.override = .forceReleased → e = d))
          ∧ does hold (fun e => e.override = .holdLocked ∧ e.state = .locked ∧ e.cls = none ∧ e.demanded = none
            ∧ e.granted = none)
          ∧ does normal (fun e => e.override = .none
            ∧ (d.override = .none → e = d)
            ∧ (d.override ≠ .none → s.doors.general = false → e.state = .locked ∧ e.cls = none ∧ e.demanded = none)
            ∧ (d.override = .forceReleased → s.doors.general = true → e.state ≠ .locked
              ∧ e.demanded = d.demanded ∧ e.cls = some (s.doorClass n .none))
            ∧ (d.override = .holdLocked → s.doors.general = true → e.state = .waiting ∨ e.state = .releasing))
          ∧ (d.state ≠ .stuck → retry = refused .state)
          ∧ (d.state = .stuck → does retry (fun e => (e.state = .waiting ∨ e.state = .releasing)
            ∧ e.retryUsed = false ∧ e.override = d.override ∧ e.cls = d.cls ∧ e.demanded = d.demanded))
          ∧ (d.override ≠ .forceReleased → settles force)
          ∧ (d.override ≠ .holdLocked → d.state.granted = true → settles hold)
          ∧ (d.override ≠ .none → s.doors.general = true ∨ d.state.granted = true → settles normal)
          ∧ (d.state = .stuck → settles retry)

/-- R128, R129, R134, R135, R136, R139: the door loop's poll, answers and silences, the two verify timers, and the relock. A node's
answer writes the feedback of its doors; UNLOCKED releases a RELEASING door; a second release expiry makes the door STUCK. A
supply that fails empties the grant set with every door of it waiting; one that returns lets the arbiter grant. At the
relock every door is LOCKED without override and every list is empty, and a return to NORMAL by it resumes the suspended
tenant programs (R71, R151). (The model's choices: where one answer or one poll makes several orders, nodes are polled ahead of
supply units and doors and floors stand in ascending order, notes/assumptions/24.md and 42.md.) -/
def Obligations.DoorEvents : Prop :=
  (∀ s : State, ∃ t, exec .doorLoopPoll s = .next t
      ∧ t.orders = s.orders ++ s.doors.nodes.keys.map .pollNode ++ s.doors.sections.keys.map .pollSupply
      ∧ t.doors = { s.doors with pollTimer := s.clock + 10 } ∧ s.onlyChanges t [.orders, .doors])
    ∧ (∀ (f : Nat) (a : NodeFeedback) (s : State), s.canonical → s.doorsSound →
      (s.doors.nodes.get f = none →
          exec (.nodeAnswer f a) s = .next s ∧ exec (.nodeSilenceExpiry f) s = .next s)
        ∧ ∀ node, s.doors.nodes.get f = some node →
          (∃ t, exec (.nodeAnswer f a) s = .next t ∧ s.onlyChanges t [.orders, .doors, .links]
              ∧ sameButAt s.doors.nodes t.doors.nodes f (some ⟨some (s.clock + 50), false⟩)
              ∧ (∀ n ∈ s.doorsOfFloor f, ∀ d, t.doors.doors.get n = some d →
                d.feedback = if feedbackAt a (doorStair n) then .unlocked else .locked)
              ∧ (let late (m : Nat) := (∃ e, s.doors.doors.get m = some e ∧ e.state = .stuck)
                    ∧ feedbackAt a (doorStair m) = true
                let relocks (m : Nat) := (∃ e, s.doors.doors.get m = some e ∧ e.state = .released)
                    ∧ feedbackAt a (doorStair m) = false
                (∀ n d, n ∉ s.doorsOfFloor f → (∀ m ∈ s.doorsOfFloor f, late m → s.doorSection m ≠ s.doorSection n) →
                    s.doors.doors.get n = some d → t.doors.doors.get n = some d)
                  ∧ (∀ n ∈ s.doorsOfFloor f, ∀ d, s.doors.doors.get n = some d →
                    ((∀ m ∈ s.doorsOfFloor f, late m → s.doorSection m ≠ s.doorSection n) →
                      t.doors.doors.get n = some (match d.state, feedbackAt a (doorStair n) with
                        | .releasing, true => { d with state := .released, verify := none, feedback := .unlocked }
                        | .released, false =>
                          { d with state := .releasing, retryUsed := false, feedback := .locked
                                   verify := some (.release, s.clock + s.figure (·.verifyTime) * 10) }
                        | .locked, false => { d with feedback := .locked, verify := none }
                        | .waiting, false => { d with feedback := .locked, verify := none }
                        | _, true => { d with feedback := .unlocked }
                        | _, false => { d with feedback := .locked }))
                      ∧ (late n → ∀ e, t.doors.doors.get n = some e →
                        e.state = .released ∨ e.state = .waiting ∨ e.state = .releasing)
                      ∧ (late n → (∀ m ∈ s.doorsOfFloor f, m ≠ n → late m → s.doorSection m ≠ s.doorSection n) →
                        ∀ x, s.doors.sections.get (s.doorSection n) = some x →
                          (x.grants.length < s.effectiveCapacity (s.doorSection n) x → t.doors.doors.get n
                            = some { d with state := .released, granted := some s.now, feedback := .unlocked })
                            ∧ (s.effectiveCapacity (s.doorSection n) x ≤ x.grants.length →
                              .lock n ∈ t.orders.drop s.orders.length
                                ∧ ∃ e, t.doors.doors.get n = some e ∧ (e.state = .waiting ∨ e.state = .releasing))))
                  ∧ ((∀ m ∈ s.doorsOfFloor f, ¬ late m) → t.doors.sections = s.doors.sections
                    ∧ ∃ ns : List Nat, t.orders = s.orders ++ ns.map .unlock ∧ ns.Pairwise (· < ·)
                      ∧ ∀ m, m ∈ ns ↔ m ∈ s.doorsOfFloor f ∧ relocks m)))
            ∧ (node.silence = none → exec (.nodeSilenceExpiry f) s = .next s)
            ∧ (node.silence ≠ none → ∃ t, exec (.nodeSilenceExpiry f) s = .next t ∧ s.onlyChanges t [.doors, .links]
              ∧ sameButAt s.doors.nodes t.doors.nodes f (some ⟨none, true⟩)
              ∧ t.doors.sections = s.doors.sections
              ∧ t.links = (s.report (.nodeSilent f)).links
              ∧ (∀ n d, s.doors.doors.get n = some d → t.doors.doors.get n
                = some (if n ∈ s.doorsOfFloor f then { d with feedback := .unknown } else d))))
    ∧ (∀ (k : Nat) (ok : Bool) (s : State), s.canonical → s.doorsSound →
      (s.doors.sections.get k = none →
          exec (.supplyUnitAnswer k ok) s = .next s ∧ exec (.supplySilenceExpiry k) s = .next s)
        ∧ ∀ x, s.doors.sections.get k = some x →
          (∃ t y, exec (.supplyUnitAnswer k ok) s = .next t ∧ t.doors.sections.get k = some y
              ∧ s.otherSections t k ∧ s.onlyChanges t [.orders, .doors, .links]
              ∧ y.ok = ok ∧ y.answered = true ∧ y.silence = some (s.clock + 50)
              ∧ (ok = x.ok → y = { x with answered := true, silence := some (s.clock + 50) })
              ∧ (ok = false → x.ok = true → y.grants = [] ∧ ∀ n ∈ x.grants, n ∈ y.waiting
                ∧ ∃ d, t.doors.doors.get n = some d ∧ d.state = .waiting ∧ d.granted = none)
              ∧ (ok = true → x.ok = false → t.settled k))
            ∧ (x.silence = none → exec (.supplySilenceExpiry k) s = .next s)
            ∧ (x.silence ≠ none → ∃ t y, exec (.supplySilenceExpiry k) s = .next t
              ∧ t.doors.sections.get k = some y ∧ s.otherSections t k ∧ s.onlyChanges t [.orders, .doors, .links]
              ∧ y.ok = false ∧ y.silence = none
              ∧ (x.ok = true → y.grants = [] ∧ ∀ n ∈ x.grants, n ∈ y.waiting)
              ∧ (x.ok = false → t.doors = { s.doors with sections := t.doors.sections } ∧ t.orders = s.orders)))
    ∧ (∀ (f : Nat) (st : Stair) (d : DoorLive) (s : State), s.canonical → s.doorsSound →
      let n := doorNumber f st
      s.doors.doors.get n = some d →
        (∀ due, d.state = .releasing → d.verify = some (.release, due) →
            (d.retryUsed = false → ∃ t, exec (.releaseVerifyExpiry f st) s = .next t
              ∧ t.orders = s.orders ++ [.unlock n] ∧ t.doors.sections = s.doors.sections
              ∧ sameButAt s.doors.doors t.doors.doors n (some { d with
                  retryUsed := true, verify := some (.release, s.clock + s.figure (·.verifyTime) * 10) })
              ∧ s.onlyChanges t [.orders, .doors])
              ∧ (d.retryUsed = true → ∃ t, exec (.releaseVerifyExpiry f st) s = .next t
                ∧ t.doors.doors.get n = some { d with state := .stuck, granted := none, verify := none }
                ∧ t.settled (s.doorSection n) ∧ s.otherSections t (s.doorSection n)
                ∧ s.onlyChanges t [.orders, .doors, .links]))
          ∧ (d.state ≠ .releasing → exec (.releaseVerifyExpiry f st) s = .next s)
          ∧ (∀ due, d.verify = some (.lock, due) → ∃ t, exec (.lockVerifyExpiry f st) s = .next t
            ∧ sameButAt s.doors.doors t.doors.doors n (some { d with verify := none })
            ∧ t.doors.sections = s.doors.sections
            ∧ t.links = (s.report (.lockUnconfirmed n d.feedback)).links ∧ s.onlyChanges t [.doors, .links])
          ∧ ((∀ due, d.verify ≠ some (.lock, due)) → exec (.lockVerifyExpiry f st) s = .next s))
    ∧ ∀ s : State, s.canonical →
      (s.doors.relockTimer = none → exec .relockHoldExpiry s = .next s)
        ∧ (s.doors.relockTimer ≠ none → ∃ t, exec .relockHoldExpiry s = .next t
          ∧ t.doors.relockTimer = none ∧ t.doors.general = false ∧ t.doors.nodes = s.doors.nodes
          ∧ (∀ n d, s.doors.doors.get n = some d → t.doors.doors.get n = some
            { d with state := .locked, override := .none, cls := none, demanded := none, granted := none
                     retryUsed := false, verify := some (.lock, s.clock + s.figure (·.verifyTime) * 10) })
          ∧ (∀ k x, s.doors.sections.get k = some x →
            t.doors.sections.get k = some { x with grants := [], waiting := [] })
          ∧ s.onlyChanges t [.orders, .regime, .lifts, .doors, .audio, .links]
          ∧ (s.regime.regime = .standdown → t.regime.regime = .normal → s.audioSound →
            s.tenantsResumed t ∧ t.audio.served)
          ∧ (s.regime.regime ≠ .standdown → t.regime = s.regime)
          ∧ (s.regime.regime = .standdown → t.regime =
            if ∀ f, f < s.fc → (s.floor f).phase = .normal then
              { s.regime with regime := .normal, relockComplete := false }
            else { s.regime with relockComplete := true }))

/-! ## Announcements -/

/-- R152, R153: an accepted ANNOUNCE makes one TENANT program under the lowest free number with an entry of its own, and gives it
every floor it names; its gap is brought into 0 to 120. CANCEL_ANNOUNCE ends a tenant program with its entry: at level 3 only
for the entry's own station, and not one that its expiry has marked already (the model's reading of R154,
notes/assumptions/38.md). Floors not concerned keep the program they hold. The refusals stand in the order of their
rules. (The premise rules out floors that the full table left without a program: they are placed when a number is freed.) -/
def Obligations.Announcements : Prop :=
  ∀ (l : Link) (h : Header) (x : Announcement) (k : Nat) (s : State),
    s.free l → s.unconfigured = false → s.canonical → s.audioSound → s.audio.unplaced = [] →
      let announce := exec (.announce l h (some x)) s
      let cancel := exec (.cancelAnnounce l h (some k)) s
      let form := x.floors ≠ [] ∧ x.floors.Nodup ∧ 1 ≤ x.phrases.length ∧ x.phrases.length ≤ 16
      let there := (∀ f ∈ x.floors, f < s.fc) ∧ ∀ p ∈ x.phrases, s.desc.building.phrases.get p ≠ none
      (s.regime.regime ≠ .normal → announce = .next (s.replied l h 32 (.refused .state) []))
        ∧ (s.regime.regime = .normal → ¬ form → announce = .next (s.replied l h 32 (.refused .format) []))
        ∧ (s.regime.regime = .normal → form → ¬ there → announce = .next (s.replied l h 32 (.refused .unknown) []))
        ∧ (s.regime.regime = .normal → form → there → s.audio.tenants.length = 8 →
          announce = .next (s.replied l h 32 (.refused .full) []))
        ∧ (s.regime.regime = .normal → form → there → s.audio.tenants.length < 8 →
          ∀ n, 1 ≤ n → n ≤ 32 → s.audio.progs.get n = none → (∀ m, 1 ≤ m → m < n → s.audio.progs.get m ≠ none) →
            ∃ t p, announce = .next t
              ∧ t.answered l h 32 (.done (decide (120 < x.gap)) false) (b1 n)
              ∧ t.audio.progs.get n = some p ∧ p.kind = .tenant ∧ p.phrases = x.phrases ∧ p.times = x.times
              ∧ p.gap = min 120 x.gap ∧ (p.state = .waiting ∨ p.state = .playing) ∧ p.created = s.now
              ∧ (∃ e ∈ t.audio.tenants, e = { prog := n, station := h.station, floors := x.floors
                                              phrases := x.phrases, times := x.times, gap := min 120 x.gap
                                              expiry := if x.expiry = 0 then none else some x.expiry
                                              timer := if x.expiry = 0 then none
                                                else some (s.clock + x.expiry * 10) })
              ∧ (∀ f, (t.audio.floor f).prog = if f ∈ x.floors then some n else (s.audio.floor f).prog)
              ∧ s.onlyChanges t [.orders, .audio, .links])
        ∧ ((∀ e ∈ s.audio.tenants, e.prog ≠ k) → cancel = .next (s.replied l h 33 (.refused .unknown) []))
        ∧ ∀ e ∈ s.audio.tenants, ∀ p, e.prog = k → s.audio.progs.get k = some p →
          (p.expiring = true → cancel = .next (s.replied l h 33 (.refused .unknown) []))
          ∧ (p.expiring = false → effectiveLevel l h = 3 → h.station ≠ e.station →
            cancel = .next (s.replied l h 33 (.refused .level) []))
          ∧ (p.expiring = false → effectiveLevel l h ≠ 3 ∨ h.station = e.station →
              ∃ t, cancel = .next t ∧ t.answered l h 33 (.done false false) []
                ∧ t.audio.progs.get k = none ∧ t.audio.tenants = s.audio.tenants.filter (fun y => y.prog ≠ k)
                ∧ (∀ f, (t.audio.floor f).prog
                  = if (s.audio.floor f).prog = some k then none else (s.audio.floor f).prog)
                ∧ s.onlyChanges t [.orders, .audio, .links])

/-- R71, R91, R146, R148 to R151, R154: the end of a phrase within the list plays the next phrase; at the end of a pass with another to
come the program goes to GAP with its switches open, starts again with every listener's switch closed, or, while it yields,
waits; the last pass of an all-clear ends it and returns its STANDDOWN floors to NORMAL, and with the last of them the suspended
tenant programs resume; a program whose expiring flag is set ends. A gap's end makes its program wait. An entry's expiry marks
a playing program and ends one that is not. A program that ends leaves the table. A zone line report sets or clears its floor's
fault flag. (The model's choices: the orders of one event to several switches stand in ascending floor order and ahead of the
order to play, notes/assumptions/24.md; a switch that is closed to the engine already is not ordered again, 44.md.) -/
def Obligations.PassEvents : Prop :=
  (∀ (e : Nat) (s : State), s.audio.engineProg e = none → exec (.phraseEnd e) s = .next s)
    ∧ (∀ (e n : Nat) (p : Prog) (s : State), s.canonical → s.audioSound → s.audio.unplaced = [] →
      s.audio.engineProg e = some (n, p) →
        let again := p.times = 0 ∨ 1 < p.remaining.getD 0
        let left := if p.times = 0 then p.remaining else p.remaining.map (· - 1)
        let last := p.phrases.length ≤ p.index + 1
        let playsAt (i : Nat) (q : Prog) : Prog := { q with
          index := i, phraseTimer := some (s.clock + (s.desc.building.phrases.get (p.phrases.getD i 0)).getD 0) }
        (p.expiring = false → ¬ last → p.state = .playing →
            ∃ t, exec (.phraseEnd e) s = .next t ∧ s.onlyChanges t [.orders, .audio]
              ∧ t.orders = s.orders ++ [.play e (p.phrases.getD (p.index + 1) 0)]
              ∧ sameButAt s.audio.progs t.audio.progs n (some (playsAt (p.index + 1) p))
              ∧ t.audio.floors = s.audio.floors ∧ t.audio.tenants = s.audio.tenants)
          ∧ (p.expiring = false → ¬ last → p.state = .yielding →
            ∃ t q, exec (.phraseEnd e) s = .next t ∧ s.onlyChanges t [.orders, .audio]
              ∧ t.audio.progs.get n = some q ∧ (q.state = .waiting ∨ q.state = .playing) ∧ q.index = 0
              ∧ q.remaining = p.remaining)
          ∧ (p.expiring = false → last → again → 0 < p.gap →
            ∃ t, exec (.phraseEnd e) s = .next t ∧ s.onlyChanges t [.orders, .audio]
              ∧ t.audio.progs.get n = some { p with
                  remaining := left, state := .gap, engine := none, index := 0, phraseTimer := none
                  gapTimer := some (s.clock + p.gap * 10) }
              ∧ (∃ more, t.orders = s.orders
                ++ ((s.audio.listeners n).filter fun f => (s.audio.floor f).connected).map .openSwitch ++ more)
              ∧ ∀ f, (t.audio.floor f).prog = (s.audio.floor f).prog)
          ∧ (p.expiring = false → last → again → p.gap = 0 → p.state = .playing →
            ∃ t, exec (.phraseEnd e) s = .next t ∧ s.onlyChanges t [.orders, .audio]
              ∧ sameButAt s.audio.progs t.audio.progs n (some (playsAt 0 { p with
                  remaining := left, started := true, state := .playing }))
              ∧ t.orders = s.orders ++ ((s.audio.listeners n).filter fun f => !(s.audio.floor f).connected).map
                (fun f => .closeSwitch f e) ++ [.play e (p.phrases.getD 0 0)]
              ∧ ∀ f, t.audio.floor f = if (s.audio.floor f).prog = some n
                then { s.audio.floor f with connected := true } else s.audio.floor f)
          ∧ (p.expiring = false → last → again → p.gap = 0 → p.state = .yielding →
            ∃ t q, exec (.phraseEnd e) s = .next t ∧ s.onlyChanges t [.orders, .audio]
              ∧ t.audio.progs.get n = some q ∧ (q.state = .waiting ∨ q.state = .playing) ∧ q.index = 0
              ∧ q.remaining = left)
          ∧ (p.expiring = true ∨ (last ∧ ¬ again) →
            ∃ t, exec (.phraseEnd e) s = .next t ∧ t.audio.progs.get n = none
              ∧ (p.kind ≠ .allclear → s.onlyChanges t [.orders, .audio, .links]
                  ∧ t.audio.tenants = s.audio.tenants.filter (fun y => y.prog ≠ n))
              ∧ (∀ f, (s.audio.floor f).prog = some n → (t.audio.floor f).prog ≠ some n)
              ∧ (p.kind = .allclear → p.expiring = false →
                ∀ f, (s.audio.floor f).prog = some n → (s.floor f).phase = .standdown →
                  (t.floor f).phase = .normal)
              ∧ (s.queueSound → s.regime.regime = .standdown → t.regime.regime = .normal →
                s.tenantsResumed t ∧ t.audio.served)))
    ∧ (∀ (n : Nat) (s : State), s.canonical → s.audioSound →
      ((∀ p, s.audio.progs.get n = some p → p.state ≠ .gap) → exec (.gapTimerExpiry n) s = .next s)
        ∧ (∀ p, s.audio.progs.get n = some p → p.state = .gap →
          ∃ t q, exec (.gapTimerExpiry n) s = .next t ∧ t.audio.progs.get n = some q
            ∧ (q.state = .waiting ∨ q.state = .playing) ∧ q.index = 0 ∧ q.gapTimer = none
            ∧ q.remaining = p.remaining ∧ s.onlyChanges t [.orders, .audio])
        ∧ ((∀ e ∈ s.audio.tenants, e.prog = n → e.timer = none) → exec (.tenantExpiry n) s = .next s)
        ∧ ∀ e ∈ s.audio.tenants, ∀ p, e.prog = n → e.timer ≠ none → s.audio.progs.get n = some p →
          s.audio.unplaced = [] →
            ∃ t, exec (.tenantExpiry n) s = .next t ∧ s.onlyChanges t [.orders, .audio, .links]
              ∧ (p.state = .playing ∨ p.state = .yielding →
                t.audio.progs.get n = some { p with expiring := true } ∧ t.audio.floors = s.audio.floors
                  ∧ t.audio.tenants = s.audio.tenants.map (fun y => if y.prog = n then { y with timer := none } else y))
              ∧ (p.state ≠ .playing → p.state ≠ .yielding →
                t.audio.progs.get n = none ∧ t.audio.tenants = s.audio.tenants.filter (fun y => y.prog ≠ n)))
    ∧ ∀ (f : Nat) (s : State), s.canonical →
      let line (i : Instr) (fault : Bool) (r : Report) :=
        (48 ≤ f ∨ (s.audio.floor f).fault = fault → exec i s = .next s)
          ∧ (f < 48 → (s.audio.floor f).fault ≠ fault →
            ∃ t, exec i s = .next t ∧ s.onlyChanges t [.audio, .links]
              ∧ t.links = (s.report r).links
              ∧ t.audio.progs = s.audio.progs ∧ t.audio.tenants = s.audio.tenants
              ∧ ∀ g, t.audio.floor g = if g = f then { s.audio.floor f with fault := fault } else s.audio.floor g)
      line (.zoneLineFault f) true (.zoneFault f) ∧ line (.zoneLineRestored f) false (.zoneRestored f)

/-! ## Invariants -/

/-- R4, R8, R9, R14, R39, R52, R74, R75, R80, R94, R110, R113, R126, R127, R130, R141, R151, R163: the machine right after reset meets every invariant below. -/
def Obligations.ResetMeetsInvariants : Prop :=
  State.reset.canonical ∧ State.reset.queuesSound ∧ State.reset.loadsSound ∧ State.reset.buildingSound
    ∧ State.reset.rangesKept ∧ State.reset.regime.sound ∧ State.reset.queueSound ∧ State.reset.carsSound
    ∧ State.reset.doorsSound ∧ State.reset.audioSound ∧ State.reset.pointsSound ∧ State.reset.routesSound
    ∧ State.reset.recallsSound ∧ State.reset.demandSound ∧ State.reset.doorTimesRecent ∧ State.reset.doorListsOrdered
    ∧ State.reset.tenantsHeld

/-- Every step keeps every table in its canonical form, and the point state table within points 1 to 1023 of the four ports. -/
def Obligations.TablesStayCanonical : Prop :=
  ∀ s t : State, s.canonical → step s = .next t → t.canonical ∧ (s.pointsSound → t.pointsSound)

/-- R94, R163, R164: every step keeps each report queue within 64 reports and the service link free of AUDIO and SUPERVISION
ones, and every stair load within 0 to 4095. -/
def Obligations.QueuesAndLoadsStaySound : Prop :=
  ∀ s t : State, step s = .next t →
    (s.queuesSound → t.queuesSound) ∧ (s.canonical → s.loadsSound → t.loadsSound)

/-- R4, R39: every step keeps the figures of the building record in their ranges, and the range table in order, within 256 ranges
and without a shared point; so does the store's copy of each. -/
def Obligations.DescriptionStaysSound : Prop :=
  ∀ s t : State, s.buildingSound → s.rangesKept → step s = .next t → t.buildingSound ∧ t.rangesKept

/-- R52 to R57, R65 to R67: every step keeps the incident list and the regime in agreement: at most 16 incidents, none open in NORMAL
or STANDDOWN, one at least in ALARM, no number and no identity twice, and a drill only with its own incident. -/
def Obligations.IncidentsStaySound : Prop :=
  ∀ s t : State, s.canonical → s.regime.sound → step s = .next t → t.regime.sound

/-- R74, R75, R80: every step keeps a floor in the evacuation queue exactly while its phase is ALERT, and that only in ALARM, and at
most once; in NORMAL every floor is NORMAL, and in STANDDOWN NORMAL or STANDDOWN. With that it keeps every floor in use in ALERT,
EVACUATE or DEFEND while the regime is ALARM or GENERAL, the floors of the open incidents in EVACUATE or DEFEND, a floor in
EVACUATE with a direct exit or a route of available stairs that serve it, and every other floor's route empty. -/
def Obligations.EvacuationQueueStaysSound : Prop :=
  ∀ s t : State, s.canonical → s.regime.sound → s.queueSound → step s = .next t →
    t.queueSound ∧ (s.routesSound → t.routesSound)

/-- R8, R66, R110, R113, R114: every step keeps a live record for each car of the description and no other, a run exactly in RECALLING
with its passes within its budget, a fault cause exactly in FAULTED, a parked floor exactly in PARKED and SHUTDOWN, and a car that
awaits its first status FAULTED with cause LINK; and it keeps every car out of RECALLING and PARKED while no recall regime holds,
as in NORMAL and in a drill without the lifts. -/
def Obligations.CarsStaySound : Prop :=
  ∀ s t : State, s.canonical → s.carsSound → step s = .next t →
    t.carsSound ∧ (s.regime.sound → s.recallsSound → t.recallsSound)

/-- R9, R126 to R128, R130, R132, R139: every step keeps a live record for each door and section of the description and no other, and a node
record for each floor that has a door and no other; each section's grant set is its doors in RELEASING and RELEASED, never more than its effective capacity, and its waiting list its doors in
WAITING; a held door is LOCKED and a forced one has demand. It keeps general demand set from ALARM to the relock, and while it is
set every door that is not held with demand, else only the forced ones. While the demands and grants lie less than 2^31 seconds
back (R160), it keeps each waiting list in order of class, demand time and door number, and each grant set in order of grant
time. (That a node record goes with the last door of its floor is the model's choice, notes/assumptions/48.md.) -/
def Obligations.DoorsStaySound : Prop :=
  ∀ s t : State, s.canonical → s.doorsSound → step s = .next t →
    t.doorsSound ∧ (s.regime.sound → s.queueSound → s.demandSound → t.demandSound)
      ∧ (s.doorTimesRecent → s.doorListsOrdered → t.doorListsOrdered)

/-- R141, R143, R144, R151, R152: every step takes all the notices it gives, keeps the drill copy at the drill flag, program numbers within 1 to 32, at most one program to an engine and an engine exactly in
PLAYING and YIELDING, every program a floor holds in the table, and an entry, of at most 8, for exactly the TENANT ones; and it
keeps every TENANT program SUSPENDED, and held by no floor, while the regime is not NORMAL. -/
def Obligations.AudioStaysSound : Prop :=
  ∀ s t : State, s.canonical → s.audioSound → step s = .next t → t.audioSound ∧ (s.tenantsHeld → t.tenantsHeld)

end
end

