-- ==== Sys2Proof/Laws/State.lean ====
section
/-! SUPPORT. What each operation over the state leaves of each part of it: one lemma for each part an operation does
not write, and for each operation what it makes of the part it writes. -/

namespace Sys2Proof.Machine

/-! ## reportAll -/

@[simp] theorem State.reportAll_clock (s : State) (rs : List Report) : (s.reportAll rs).clock = s.clock := rfl
@[simp] theorem State.reportAll_choices (s : State) (rs : List Report) : (s.reportAll rs).choices = s.choices := rfl
@[simp] theorem State.reportAll_orders (s : State) (rs : List Report) : (s.reportAll rs).orders = s.orders := rfl
@[simp] theorem State.reportAll_pending (s : State) (rs : List Report) : (s.reportAll rs).pending = s.pending := rfl
@[simp] theorem State.reportAll_store (s : State) (rs : List Report) : (s.reportAll rs).store = s.store := rfl
@[simp] theorem State.reportAll_desc (s : State) (rs : List Report) : (s.reportAll rs).desc = s.desc := rfl
@[simp] theorem State.reportAll_panel (s : State) (rs : List Report) : (s.reportAll rs).panel = s.panel := rfl
@[simp] theorem State.reportAll_regime (s : State) (rs : List Report) : (s.reportAll rs).regime = s.regime := rfl
@[simp] theorem State.reportAll_evac (s : State) (rs : List Report) : (s.reportAll rs).evac = s.evac := rfl
@[simp] theorem State.reportAll_stairs (s : State) (rs : List Report) : (s.reportAll rs).stairs = s.stairs := rfl
@[simp] theorem State.reportAll_lifts (s : State) (rs : List Report) : (s.reportAll rs).lifts = s.lifts := rfl
@[simp] theorem State.reportAll_doors (s : State) (rs : List Report) : (s.reportAll rs).doors = s.doors := rfl
@[simp] theorem State.reportAll_audio (s : State) (rs : List Report) : (s.reportAll rs).audio = s.audio := rfl

/-! ## report -/

@[simp] theorem State.report_clock (s : State) (r : Report) : (s.report r).clock = s.clock := rfl
@[simp] theorem State.report_choices (s : State) (r : Report) : (s.report r).choices = s.choices := rfl
@[simp] theorem State.report_orders (s : State) (r : Report) : (s.report r).orders = s.orders := rfl
@[simp] theorem State.report_pending (s : State) (r : Report) : (s.report r).pending = s.pending := rfl
@[simp] theorem State.report_store (s : State) (r : Report) : (s.report r).store = s.store := rfl
@[simp] theorem State.report_desc (s : State) (r : Report) : (s.report r).desc = s.desc := rfl
@[simp] theorem State.report_panel (s : State) (r : Report) : (s.report r).panel = s.panel := rfl
@[simp] theorem State.report_regime (s : State) (r : Report) : (s.report r).regime = s.regime := rfl
@[simp] theorem State.report_evac (s : State) (r : Report) : (s.report r).evac = s.evac := rfl
@[simp] theorem State.report_stairs (s : State) (r : Report) : (s.report r).stairs = s.stairs := rfl
@[simp] theorem State.report_lifts (s : State) (r : Report) : (s.report r).lifts = s.lifts := rfl
@[simp] theorem State.report_doors (s : State) (r : Report) : (s.report r).doors = s.doors := rfl
@[simp] theorem State.report_audio (s : State) (r : Report) : (s.report r).audio = s.audio := rfl

/-! ## sendAll -/

@[simp] theorem State.sendAll_clock (s : State) (os : List Order) : (s.sendAll os).clock = s.clock := rfl
@[simp] theorem State.sendAll_choices (s : State) (os : List Order) : (s.sendAll os).choices = s.choices := rfl
@[simp] theorem State.sendAll_pending (s : State) (os : List Order) : (s.sendAll os).pending = s.pending := rfl
@[simp] theorem State.sendAll_store (s : State) (os : List Order) : (s.sendAll os).store = s.store := rfl
@[simp] theorem State.sendAll_desc (s : State) (os : List Order) : (s.sendAll os).desc = s.desc := rfl
@[simp] theorem State.sendAll_panel (s : State) (os : List Order) : (s.sendAll os).panel = s.panel := rfl
@[simp] theorem State.sendAll_regime (s : State) (os : List Order) : (s.sendAll os).regime = s.regime := rfl
@[simp] theorem State.sendAll_evac (s : State) (os : List Order) : (s.sendAll os).evac = s.evac := rfl
@[simp] theorem State.sendAll_stairs (s : State) (os : List Order) : (s.sendAll os).stairs = s.stairs := rfl
@[simp] theorem State.sendAll_lifts (s : State) (os : List Order) : (s.sendAll os).lifts = s.lifts := rfl
@[simp] theorem State.sendAll_doors (s : State) (os : List Order) : (s.sendAll os).doors = s.doors := rfl
@[simp] theorem State.sendAll_audio (s : State) (os : List Order) : (s.sendAll os).audio = s.audio := rfl
@[simp] theorem State.sendAll_links (s : State) (os : List Order) : (s.sendAll os).links = s.links := rfl

/-! ## send -/

@[simp] theorem State.send_clock (s : State) (o : Order) : (s.send o).clock = s.clock := rfl
@[simp] theorem State.send_choices (s : State) (o : Order) : (s.send o).choices = s.choices := rfl
@[simp] theorem State.send_pending (s : State) (o : Order) : (s.send o).pending = s.pending := rfl
@[simp] theorem State.send_store (s : State) (o : Order) : (s.send o).store = s.store := rfl
@[simp] theorem State.send_desc (s : State) (o : Order) : (s.send o).desc = s.desc := rfl
@[simp] theorem State.send_panel (s : State) (o : Order) : (s.send o).panel = s.panel := rfl
@[simp] theorem State.send_regime (s : State) (o : Order) : (s.send o).regime = s.regime := rfl
@[simp] theorem State.send_evac (s : State) (o : Order) : (s.send o).evac = s.evac := rfl
@[simp] theorem State.send_stairs (s : State) (o : Order) : (s.send o).stairs = s.stairs := rfl
@[simp] theorem State.send_lifts (s : State) (o : Order) : (s.send o).lifts = s.lifts := rfl
@[simp] theorem State.send_doors (s : State) (o : Order) : (s.send o).doors = s.doors := rfl
@[simp] theorem State.send_audio (s : State) (o : Order) : (s.send o).audio = s.audio := rfl
@[simp] theorem State.send_links (s : State) (o : Order) : (s.send o).links = s.links := rfl

/-! ## emit -/

@[simp] theorem State.emit_clock (s : State) {σ : Type} (a : Act σ) : (s.emit a).clock = s.clock := rfl
@[simp] theorem State.emit_choices (s : State) {σ : Type} (a : Act σ) : (s.emit a).choices = s.choices := rfl
@[simp] theorem State.emit_pending (s : State) {σ : Type} (a : Act σ) : (s.emit a).pending = s.pending := rfl
@[simp] theorem State.emit_store (s : State) {σ : Type} (a : Act σ) : (s.emit a).store = s.store := rfl
@[simp] theorem State.emit_desc (s : State) {σ : Type} (a : Act σ) : (s.emit a).desc = s.desc := rfl
@[simp] theorem State.emit_panel (s : State) {σ : Type} (a : Act σ) : (s.emit a).panel = s.panel := rfl
@[simp] theorem State.emit_regime (s : State) {σ : Type} (a : Act σ) : (s.emit a).regime = s.regime := rfl
@[simp] theorem State.emit_evac (s : State) {σ : Type} (a : Act σ) : (s.emit a).evac = s.evac := rfl
@[simp] theorem State.emit_stairs (s : State) {σ : Type} (a : Act σ) : (s.emit a).stairs = s.stairs := rfl
@[simp] theorem State.emit_lifts (s : State) {σ : Type} (a : Act σ) : (s.emit a).lifts = s.lifts := rfl
@[simp] theorem State.emit_doors (s : State) {σ : Type} (a : Act σ) : (s.emit a).doors = s.doors := rfl
@[simp] theorem State.emit_audio (s : State) {σ : Type} (a : Act σ) : (s.emit a).audio = s.audio := rfl

/-! ## onStairs -/

@[simp] theorem State.onStairs_clock (s : State) (f : Act StairUnit → Act StairUnit) : (s.onStairs f).clock = s.clock := rfl
@[simp] theorem State.onStairs_choices (s : State) (f : Act StairUnit → Act StairUnit) : (s.onStairs f).choices = s.choices := rfl
@[simp] theorem State.onStairs_pending (s : State) (f : Act StairUnit → Act StairUnit) : (s.onStairs f).pending = s.pending := rfl
@[simp] theorem State.onStairs_store (s : State) (f : Act StairUnit → Act StairUnit) : (s.onStairs f).store = s.store := rfl
@[simp] theorem State.onStairs_desc (s : State) (f : Act StairUnit → Act StairUnit) : (s.onStairs f).desc = s.desc := rfl
@[simp] theorem State.onStairs_panel (s : State) (f : Act StairUnit → Act StairUnit) : (s.onStairs f).panel = s.panel := rfl
@[simp] theorem State.onStairs_regime (s : State) (f : Act StairUnit → Act StairUnit) : (s.onStairs f).regime = s.regime := rfl
@[simp] theorem State.onStairs_evac (s : State) (f : Act StairUnit → Act StairUnit) : (s.onStairs f).evac = s.evac := rfl
@[simp] theorem State.onStairs_lifts (s : State) (f : Act StairUnit → Act StairUnit) : (s.onStairs f).lifts = s.lifts := rfl
@[simp] theorem State.onStairs_doors (s : State) (f : Act StairUnit → Act StairUnit) : (s.onStairs f).doors = s.doors := rfl
@[simp] theorem State.onStairs_audio (s : State) (f : Act StairUnit → Act StairUnit) : (s.onStairs f).audio = s.audio := rfl

/-! ## onLifts -/

@[simp] theorem State.onLifts_clock (s : State) (f : Act LiftUnit → Act LiftUnit) : (s.onLifts f).clock = s.clock := rfl
@[simp] theorem State.onLifts_choices (s : State) (f : Act LiftUnit → Act LiftUnit) : (s.onLifts f).choices = s.choices := rfl
@[simp] theorem State.onLifts_pending (s : State) (f : Act LiftUnit → Act LiftUnit) : (s.onLifts f).pending = s.pending := rfl
@[simp] theorem State.onLifts_store (s : State) (f : Act LiftUnit → Act LiftUnit) : (s.onLifts f).store = s.store := rfl
@[simp] theorem State.onLifts_desc (s : State) (f : Act LiftUnit → Act LiftUnit) : (s.onLifts f).desc = s.desc := rfl
@[simp] theorem State.onLifts_panel (s : State) (f : Act LiftUnit → Act LiftUnit) : (s.onLifts f).panel = s.panel := rfl
@[simp] theorem State.onLifts_regime (s : State) (f : Act LiftUnit → Act LiftUnit) : (s.onLifts f).regime = s.regime := rfl
@[simp] theorem State.onLifts_evac (s : State) (f : Act LiftUnit → Act LiftUnit) : (s.onLifts f).evac = s.evac := rfl
@[simp] theorem State.onLifts_stairs (s : State) (f : Act LiftUnit → Act LiftUnit) : (s.onLifts f).stairs = s.stairs := rfl
@[simp] theorem State.onLifts_doors (s : State) (f : Act LiftUnit → Act LiftUnit) : (s.onLifts f).doors = s.doors := rfl
@[simp] theorem State.onLifts_audio (s : State) (f : Act LiftUnit → Act LiftUnit) : (s.onLifts f).audio = s.audio := rfl

/-! ## onDoors -/

@[simp] theorem State.onDoors_clock (s : State) (f : Act DoorUnit → Act DoorUnit) : (s.onDoors f).clock = s.clock := rfl
@[simp] theorem State.onDoors_choices (s : State) (f : Act DoorUnit → Act DoorUnit) : (s.onDoors f).choices = s.choices := rfl
@[simp] theorem State.onDoors_pending (s : State) (f : Act DoorUnit → Act DoorUnit) : (s.onDoors f).pending = s.pending := rfl
@[simp] theorem State.onDoors_store (s : State) (f : Act DoorUnit → Act DoorUnit) : (s.onDoors f).store = s.store := rfl
@[simp] theorem State.onDoors_desc (s : State) (f : Act DoorUnit → Act DoorUnit) : (s.onDoors f).desc = s.desc := rfl
@[simp] theorem State.onDoors_panel (s : State) (f : Act DoorUnit → Act DoorUnit) : (s.onDoors f).panel = s.panel := rfl
@[simp] theorem State.onDoors_regime (s : State) (f : Act DoorUnit → Act DoorUnit) : (s.onDoors f).regime = s.regime := rfl
@[simp] theorem State.onDoors_evac (s : State) (f : Act DoorUnit → Act DoorUnit) : (s.onDoors f).evac = s.evac := rfl
@[simp] theorem State.onDoors_stairs (s : State) (f : Act DoorUnit → Act DoorUnit) : (s.onDoors f).stairs = s.stairs := rfl
@[simp] theorem State.onDoors_lifts (s : State) (f : Act DoorUnit → Act DoorUnit) : (s.onDoors f).lifts = s.lifts := rfl
@[simp] theorem State.onDoors_audio (s : State) (f : Act DoorUnit → Act DoorUnit) : (s.onDoors f).audio = s.audio := rfl

/-! ## onAudio -/

@[simp] theorem State.onAudio_clock (s : State) (f : Act AudioUnit → Act AudioUnit) : (s.onAudio f).clock = s.clock := rfl
@[simp] theorem State.onAudio_choices (s : State) (f : Act AudioUnit → Act AudioUnit) : (s.onAudio f).choices = s.choices := rfl
@[simp] theorem State.onAudio_pending (s : State) (f : Act AudioUnit → Act AudioUnit) : (s.onAudio f).pending = s.pending := rfl
@[simp] theorem State.onAudio_store (s : State) (f : Act AudioUnit → Act AudioUnit) : (s.onAudio f).store = s.store := rfl
@[simp] theorem State.onAudio_desc (s : State) (f : Act AudioUnit → Act AudioUnit) : (s.onAudio f).desc = s.desc := rfl
@[simp] theorem State.onAudio_panel (s : State) (f : Act AudioUnit → Act AudioUnit) : (s.onAudio f).panel = s.panel := rfl
@[simp] theorem State.onAudio_regime (s : State) (f : Act AudioUnit → Act AudioUnit) : (s.onAudio f).regime = s.regime := rfl
@[simp] theorem State.onAudio_evac (s : State) (f : Act AudioUnit → Act AudioUnit) : (s.onAudio f).evac = s.evac := rfl
@[simp] theorem State.onAudio_stairs (s : State) (f : Act AudioUnit → Act AudioUnit) : (s.onAudio f).stairs = s.stairs := rfl
@[simp] theorem State.onAudio_lifts (s : State) (f : Act AudioUnit → Act AudioUnit) : (s.onAudio f).lifts = s.lifts := rfl
@[simp] theorem State.onAudio_doors (s : State) (f : Act AudioUnit → Act AudioUnit) : (s.onAudio f).doors = s.doors := rfl

/-! ## takeNotices -/

@[simp] theorem State.takeNotices_clock (s : State) : (s.takeNotices).clock = s.clock := rfl
@[simp] theorem State.takeNotices_choices (s : State) : (s.takeNotices).choices = s.choices := rfl
@[simp] theorem State.takeNotices_pending (s : State) : (s.takeNotices).pending = s.pending := rfl
@[simp] theorem State.takeNotices_store (s : State) : (s.takeNotices).store = s.store := rfl
@[simp] theorem State.takeNotices_desc (s : State) : (s.takeNotices).desc = s.desc := rfl
@[simp] theorem State.takeNotices_panel (s : State) : (s.takeNotices).panel = s.panel := rfl
@[simp] theorem State.takeNotices_regime (s : State) : (s.takeNotices).regime = s.regime := rfl
@[simp] theorem State.takeNotices_evac (s : State) : (s.takeNotices).evac = s.evac := rfl
@[simp] theorem State.takeNotices_stairs (s : State) : (s.takeNotices).stairs = s.stairs := rfl
@[simp] theorem State.takeNotices_lifts (s : State) : (s.takeNotices).lifts = s.lifts := rfl
@[simp] theorem State.takeNotices_doors (s : State) : (s.takeNotices).doors = s.doors := rfl

/-! ## setFloor -/

@[simp] theorem State.setFloor_clock (s : State) (f : Nat) (x : Floor) : (s.setFloor f x).clock = s.clock := rfl
@[simp] theorem State.setFloor_choices (s : State) (f : Nat) (x : Floor) : (s.setFloor f x).choices = s.choices := rfl
@[simp] theorem State.setFloor_orders (s : State) (f : Nat) (x : Floor) : (s.setFloor f x).orders = s.orders := rfl
@[simp] theorem State.setFloor_pending (s : State) (f : Nat) (x : Floor) : (s.setFloor f x).pending = s.pending := rfl
@[simp] theorem State.setFloor_store (s : State) (f : Nat) (x : Floor) : (s.setFloor f x).store = s.store := rfl
@[simp] theorem State.setFloor_desc (s : State) (f : Nat) (x : Floor) : (s.setFloor f x).desc = s.desc := rfl
@[simp] theorem State.setFloor_panel (s : State) (f : Nat) (x : Floor) : (s.setFloor f x).panel = s.panel := rfl
@[simp] theorem State.setFloor_regime (s : State) (f : Nat) (x : Floor) : (s.setFloor f x).regime = s.regime := rfl
@[simp] theorem State.setFloor_stairs (s : State) (f : Nat) (x : Floor) : (s.setFloor f x).stairs = s.stairs := rfl
@[simp] theorem State.setFloor_lifts (s : State) (f : Nat) (x : Floor) : (s.setFloor f x).lifts = s.lifts := rfl
@[simp] theorem State.setFloor_doors (s : State) (f : Nat) (x : Floor) : (s.setFloor f x).doors = s.doors := rfl
@[simp] theorem State.setFloor_audio (s : State) (f : Nat) (x : Floor) : (s.setFloor f x).audio = s.audio := rfl
@[simp] theorem State.setFloor_links (s : State) (f : Nat) (x : Floor) : (s.setFloor f x).links = s.links := rfl

/-! ## setQueue -/

@[simp] theorem State.setQueue_clock (s : State) (q : List QueueEntry) : (s.setQueue q).clock = s.clock := rfl
@[simp] theorem State.setQueue_choices (s : State) (q : List QueueEntry) : (s.setQueue q).choices = s.choices := rfl
@[simp] theorem State.setQueue_orders (s : State) (q : List QueueEntry) : (s.setQueue q).orders = s.orders := rfl
@[simp] theorem State.setQueue_pending (s : State) (q : List QueueEntry) : (s.setQueue q).pending = s.pending := rfl
@[simp] theorem State.setQueue_store (s : State) (q : List QueueEntry) : (s.setQueue q).store = s.store := rfl
@[simp] theorem State.setQueue_desc (s : State) (q : List QueueEntry) : (s.setQueue q).desc = s.desc := rfl
@[simp] theorem State.setQueue_panel (s : State) (q : List QueueEntry) : (s.setQueue q).panel = s.panel := rfl
@[simp] theorem State.setQueue_regime (s : State) (q : List QueueEntry) : (s.setQueue q).regime = s.regime := rfl
@[simp] theorem State.setQueue_stairs (s : State) (q : List QueueEntry) : (s.setQueue q).stairs = s.stairs := rfl
@[simp] theorem State.setQueue_lifts (s : State) (q : List QueueEntry) : (s.setQueue q).lifts = s.lifts := rfl
@[simp] theorem State.setQueue_doors (s : State) (q : List QueueEntry) : (s.setQueue q).doors = s.doors := rfl
@[simp] theorem State.setQueue_audio (s : State) (q : List QueueEntry) : (s.setQueue q).audio = s.audio := rfl
@[simp] theorem State.setQueue_links (s : State) (q : List QueueEntry) : (s.setQueue q).links = s.links := rfl

/-! ## setPort -/

@[simp] theorem State.setPort_clock (s : State) (p : Port) (x : PortLive) : (s.setPort p x).clock = s.clock := rfl
@[simp] theorem State.setPort_choices (s : State) (p : Port) (x : PortLive) : (s.setPort p x).choices = s.choices := rfl
@[simp] theorem State.setPort_orders (s : State) (p : Port) (x : PortLive) : (s.setPort p x).orders = s.orders := rfl
@[simp] theorem State.setPort_pending (s : State) (p : Port) (x : PortLive) : (s.setPort p x).pending = s.pending := rfl
@[simp] theorem State.setPort_store (s : State) (p : Port) (x : PortLive) : (s.setPort p x).store = s.store := rfl
@[simp] theorem State.setPort_desc (s : State) (p : Port) (x : PortLive) : (s.setPort p x).desc = s.desc := rfl
@[simp] theorem State.setPort_regime (s : State) (p : Port) (x : PortLive) : (s.setPort p x).regime = s.regime := rfl
@[simp] theorem State.setPort_evac (s : State) (p : Port) (x : PortLive) : (s.setPort p x).evac = s.evac := rfl
@[simp] theorem State.setPort_stairs (s : State) (p : Port) (x : PortLive) : (s.setPort p x).stairs = s.stairs := rfl
@[simp] theorem State.setPort_lifts (s : State) (p : Port) (x : PortLive) : (s.setPort p x).lifts = s.lifts := rfl
@[simp] theorem State.setPort_doors (s : State) (p : Port) (x : PortLive) : (s.setPort p x).doors = s.doors := rfl
@[simp] theorem State.setPort_audio (s : State) (p : Port) (x : PortLive) : (s.setPort p x).audio = s.audio := rfl
@[simp] theorem State.setPort_links (s : State) (p : Port) (x : PortLive) : (s.setPort p x).links = s.links := rfl

/-! ## changePort -/

@[simp] theorem State.changePort_clock (s : State) (p : Port) (f : PortLive → PortLive) : (s.changePort p f).clock = s.clock := rfl
@[simp] theorem State.changePort_choices (s : State) (p : Port) (f : PortLive → PortLive) : (s.changePort p f).choices = s.choices := rfl
@[simp] theorem State.changePort_orders (s : State) (p : Port) (f : PortLive → PortLive) : (s.changePort p f).orders = s.orders := rfl
@[simp] theorem State.changePort_pending (s : State) (p : Port) (f : PortLive → PortLive) : (s.changePort p f).pending = s.pending := rfl
@[simp] theorem State.changePort_store (s : State) (p : Port) (f : PortLive → PortLive) : (s.changePort p f).store = s.store := rfl
@[simp] theorem State.changePort_desc (s : State) (p : Port) (f : PortLive → PortLive) : (s.changePort p f).desc = s.desc := rfl
@[simp] theorem State.changePort_regime (s : State) (p : Port) (f : PortLive → PortLive) : (s.changePort p f).regime = s.regime := rfl
@[simp] theorem State.changePort_evac (s : State) (p : Port) (f : PortLive → PortLive) : (s.changePort p f).evac = s.evac := rfl
@[simp] theorem State.changePort_stairs (s : State) (p : Port) (f : PortLive → PortLive) : (s.changePort p f).stairs = s.stairs := rfl
@[simp] theorem State.changePort_lifts (s : State) (p : Port) (f : PortLive → PortLive) : (s.changePort p f).lifts = s.lifts := rfl
@[simp] theorem State.changePort_doors (s : State) (p : Port) (f : PortLive → PortLive) : (s.changePort p f).doors = s.doors := rfl
@[simp] theorem State.changePort_audio (s : State) (p : Port) (f : PortLive → PortLive) : (s.changePort p f).audio = s.audio := rfl
@[simp] theorem State.changePort_links (s : State) (p : Port) (f : PortLive → PortLive) : (s.changePort p f).links = s.links := rfl

/-! ## setPoint -/

@[simp] theorem State.setPoint_clock (s : State) (p : Port) (n : Nat) (x : PointRec) : (s.setPoint p n x).clock = s.clock := rfl
@[simp] theorem State.setPoint_choices (s : State) (p : Port) (n : Nat) (x : PointRec) : (s.setPoint p n x).choices = s.choices := rfl
@[simp] theorem State.setPoint_orders (s : State) (p : Port) (n : Nat) (x : PointRec) : (s.setPoint p n x).orders = s.orders := rfl
@[simp] theorem State.setPoint_pending (s : State) (p : Port) (n : Nat) (x : PointRec) : (s.setPoint p n x).pending = s.pending := rfl
@[simp] theorem State.setPoint_store (s : State) (p : Port) (n : Nat) (x : PointRec) : (s.setPoint p n x).store = s.store := rfl
@[simp] theorem State.setPoint_desc (s : State) (p : Port) (n : Nat) (x : PointRec) : (s.setPoint p n x).desc = s.desc := rfl
@[simp] theorem State.setPoint_regime (s : State) (p : Port) (n : Nat) (x : PointRec) : (s.setPoint p n x).regime = s.regime := rfl
@[simp] theorem State.setPoint_evac (s : State) (p : Port) (n : Nat) (x : PointRec) : (s.setPoint p n x).evac = s.evac := rfl
@[simp] theorem State.setPoint_stairs (s : State) (p : Port) (n : Nat) (x : PointRec) : (s.setPoint p n x).stairs = s.stairs := rfl
@[simp] theorem State.setPoint_lifts (s : State) (p : Port) (n : Nat) (x : PointRec) : (s.setPoint p n x).lifts = s.lifts := rfl
@[simp] theorem State.setPoint_doors (s : State) (p : Port) (n : Nat) (x : PointRec) : (s.setPoint p n x).doors = s.doors := rfl
@[simp] theorem State.setPoint_audio (s : State) (p : Port) (n : Nat) (x : PointRec) : (s.setPoint p n x).audio = s.audio := rfl
@[simp] theorem State.setPoint_links (s : State) (p : Port) (n : Nat) (x : PointRec) : (s.setPoint p n x).links = s.links := rfl

/-! ## contribute -/

@[simp] theorem State.contribute_clock (s : State) (x : Port × Nat) (n : Nat) : (s.contribute x n).clock = s.clock := rfl
@[simp] theorem State.contribute_choices (s : State) (x : Port × Nat) (n : Nat) : (s.contribute x n).choices = s.choices := rfl
@[simp] theorem State.contribute_orders (s : State) (x : Port × Nat) (n : Nat) : (s.contribute x n).orders = s.orders := rfl
@[simp] theorem State.contribute_pending (s : State) (x : Port × Nat) (n : Nat) : (s.contribute x n).pending = s.pending := rfl
@[simp] theorem State.contribute_store (s : State) (x : Port × Nat) (n : Nat) : (s.contribute x n).store = s.store := rfl
@[simp] theorem State.contribute_desc (s : State) (x : Port × Nat) (n : Nat) : (s.contribute x n).desc = s.desc := rfl
@[simp] theorem State.contribute_regime (s : State) (x : Port × Nat) (n : Nat) : (s.contribute x n).regime = s.regime := rfl
@[simp] theorem State.contribute_evac (s : State) (x : Port × Nat) (n : Nat) : (s.contribute x n).evac = s.evac := rfl
@[simp] theorem State.contribute_stairs (s : State) (x : Port × Nat) (n : Nat) : (s.contribute x n).stairs = s.stairs := rfl
@[simp] theorem State.contribute_lifts (s : State) (x : Port × Nat) (n : Nat) : (s.contribute x n).lifts = s.lifts := rfl
@[simp] theorem State.contribute_doors (s : State) (x : Port × Nat) (n : Nat) : (s.contribute x n).doors = s.doors := rfl
@[simp] theorem State.contribute_audio (s : State) (x : Port × Nat) (n : Nat) : (s.contribute x n).audio = s.audio := rfl
@[simp] theorem State.contribute_links (s : State) (x : Port × Nat) (n : Nat) : (s.contribute x n).links = s.links := rfl

/-! ## setLink -/

@[simp] theorem State.setLink_clock (s : State) (l : Link) (x : LinkLive) : (s.setLink l x).clock = s.clock := rfl
@[simp] theorem State.setLink_choices (s : State) (l : Link) (x : LinkLive) : (s.setLink l x).choices = s.choices := rfl
@[simp] theorem State.setLink_orders (s : State) (l : Link) (x : LinkLive) : (s.setLink l x).orders = s.orders := rfl
@[simp] theorem State.setLink_pending (s : State) (l : Link) (x : LinkLive) : (s.setLink l x).pending = s.pending := rfl
@[simp] theorem State.setLink_store (s : State) (l : Link) (x : LinkLive) : (s.setLink l x).store = s.store := rfl
@[simp] theorem State.setLink_desc (s : State) (l : Link) (x : LinkLive) : (s.setLink l x).desc = s.desc := rfl
@[simp] theorem State.setLink_panel (s : State) (l : Link) (x : LinkLive) : (s.setLink l x).panel = s.panel := rfl
@[simp] theorem State.setLink_regime (s : State) (l : Link) (x : LinkLive) : (s.setLink l x).regime = s.regime := rfl
@[simp] theorem State.setLink_evac (s : State) (l : Link) (x : LinkLive) : (s.setLink l x).evac = s.evac := rfl
@[simp] theorem State.setLink_stairs (s : State) (l : Link) (x : LinkLive) : (s.setLink l x).stairs = s.stairs := rfl
@[simp] theorem State.setLink_lifts (s : State) (l : Link) (x : LinkLive) : (s.setLink l x).lifts = s.lifts := rfl
@[simp] theorem State.setLink_doors (s : State) (l : Link) (x : LinkLive) : (s.setLink l x).doors = s.doors := rfl
@[simp] theorem State.setLink_audio (s : State) (l : Link) (x : LinkLive) : (s.setLink l x).audio = s.audio := rfl

/-! ## changeLink -/

@[simp] theorem State.changeLink_clock (s : State) (l : Link) (f : LinkLive → LinkLive) : (s.changeLink l f).clock = s.clock := rfl
@[simp] theorem State.changeLink_choices (s : State) (l : Link) (f : LinkLive → LinkLive) : (s.changeLink l f).choices = s.choices := rfl
@[simp] theorem State.changeLink_orders (s : State) (l : Link) (f : LinkLive → LinkLive) : (s.changeLink l f).orders = s.orders := rfl
@[simp] theorem State.changeLink_pending (s : State) (l : Link) (f : LinkLive → LinkLive) : (s.changeLink l f).pending = s.pending := rfl
@[simp] theorem State.changeLink_store (s : State) (l : Link) (f : LinkLive → LinkLive) : (s.changeLink l f).store = s.store := rfl
@[simp] theorem State.changeLink_desc (s : State) (l : Link) (f : LinkLive → LinkLive) : (s.changeLink l f).desc = s.desc := rfl
@[simp] theorem State.changeLink_panel (s : State) (l : Link) (f : LinkLive → LinkLive) : (s.changeLink l f).panel = s.panel := rfl
@[simp] theorem State.changeLink_regime (s : State) (l : Link) (f : LinkLive → LinkLive) : (s.changeLink l f).regime = s.regime := rfl
@[simp] theorem State.changeLink_evac (s : State) (l : Link) (f : LinkLive → LinkLive) : (s.changeLink l f).evac = s.evac := rfl
@[simp] theorem State.changeLink_stairs (s : State) (l : Link) (f : LinkLive → LinkLive) : (s.changeLink l f).stairs = s.stairs := rfl
@[simp] theorem State.changeLink_lifts (s : State) (l : Link) (f : LinkLive → LinkLive) : (s.changeLink l f).lifts = s.lifts := rfl
@[simp] theorem State.changeLink_doors (s : State) (l : Link) (f : LinkLive → LinkLive) : (s.changeLink l f).doors = s.doors := rfl
@[simp] theorem State.changeLink_audio (s : State) (l : Link) (f : LinkLive → LinkLive) : (s.changeLink l f).audio = s.audio := rfl

/-! ## reply -/

@[simp] theorem State.reply_clock (s : State) (l : Link) (station level tag kind : Nat) (a : Answer) : (s.reply l station level tag kind a).clock = s.clock := rfl
@[simp] theorem State.reply_choices (s : State) (l : Link) (station level tag kind : Nat) (a : Answer) : (s.reply l station level tag kind a).choices = s.choices := rfl
@[simp] theorem State.reply_orders (s : State) (l : Link) (station level tag kind : Nat) (a : Answer) : (s.reply l station level tag kind a).orders = s.orders := rfl
@[simp] theorem State.reply_pending (s : State) (l : Link) (station level tag kind : Nat) (a : Answer) : (s.reply l station level tag kind a).pending = s.pending := rfl
@[simp] theorem State.reply_store (s : State) (l : Link) (station level tag kind : Nat) (a : Answer) : (s.reply l station level tag kind a).store = s.store := rfl
@[simp] theorem State.reply_desc (s : State) (l : Link) (station level tag kind : Nat) (a : Answer) : (s.reply l station level tag kind a).desc = s.desc := rfl
@[simp] theorem State.reply_panel (s : State) (l : Link) (station level tag kind : Nat) (a : Answer) : (s.reply l station level tag kind a).panel = s.panel := rfl
@[simp] theorem State.reply_regime (s : State) (l : Link) (station level tag kind : Nat) (a : Answer) : (s.reply l station level tag kind a).regime = s.regime := rfl
@[simp] theorem State.reply_evac (s : State) (l : Link) (station level tag kind : Nat) (a : Answer) : (s.reply l station level tag kind a).evac = s.evac := rfl
@[simp] theorem State.reply_stairs (s : State) (l : Link) (station level tag kind : Nat) (a : Answer) : (s.reply l station level tag kind a).stairs = s.stairs := rfl
@[simp] theorem State.reply_lifts (s : State) (l : Link) (station level tag kind : Nat) (a : Answer) : (s.reply l station level tag kind a).lifts = s.lifts := rfl
@[simp] theorem State.reply_doors (s : State) (l : Link) (station level tag kind : Nat) (a : Answer) : (s.reply l station level tag kind a).doors = s.doors := rfl
@[simp] theorem State.reply_audio (s : State) (l : Link) (station level tag kind : Nat) (a : Answer) : (s.reply l station level tag kind a).audio = s.audio := rfl

/-! ## stairReport -/

@[simp] theorem State.stairReport_clock (s : State) (x : Stair) (r : Nat → Nat → Report) : (s.stairReport x r).clock = s.clock := rfl
@[simp] theorem State.stairReport_choices (s : State) (x : Stair) (r : Nat → Nat → Report) : (s.stairReport x r).choices = s.choices := rfl
@[simp] theorem State.stairReport_orders (s : State) (x : Stair) (r : Nat → Nat → Report) : (s.stairReport x r).orders = s.orders := rfl
@[simp] theorem State.stairReport_pending (s : State) (x : Stair) (r : Nat → Nat → Report) : (s.stairReport x r).pending = s.pending := rfl
@[simp] theorem State.stairReport_store (s : State) (x : Stair) (r : Nat → Nat → Report) : (s.stairReport x r).store = s.store := rfl
@[simp] theorem State.stairReport_desc (s : State) (x : Stair) (r : Nat → Nat → Report) : (s.stairReport x r).desc = s.desc := rfl
@[simp] theorem State.stairReport_panel (s : State) (x : Stair) (r : Nat → Nat → Report) : (s.stairReport x r).panel = s.panel := rfl
@[simp] theorem State.stairReport_regime (s : State) (x : Stair) (r : Nat → Nat → Report) : (s.stairReport x r).regime = s.regime := rfl
@[simp] theorem State.stairReport_evac (s : State) (x : Stair) (r : Nat → Nat → Report) : (s.stairReport x r).evac = s.evac := rfl
@[simp] theorem State.stairReport_stairs (s : State) (x : Stair) (r : Nat → Nat → Report) : (s.stairReport x r).stairs = s.stairs := rfl
@[simp] theorem State.stairReport_lifts (s : State) (x : Stair) (r : Nat → Nat → Report) : (s.stairReport x r).lifts = s.lifts := rfl
@[simp] theorem State.stairReport_doors (s : State) (x : Stair) (r : Nat → Nat → Report) : (s.stairReport x r).doors = s.doors := rfl
@[simp] theorem State.stairReport_audio (s : State) (x : Stair) (r : Nat → Nat → Report) : (s.stairReport x r).audio = s.audio := rfl

/-! ## changeRegime -/

@[simp] theorem State.changeRegime_clock (s : State) (f : RegimeUnit → RegimeUnit) : (s.changeRegime f).clock = s.clock := rfl
@[simp] theorem State.changeRegime_choices (s : State) (f : RegimeUnit → RegimeUnit) : (s.changeRegime f).choices = s.choices := rfl
@[simp] theorem State.changeRegime_orders (s : State) (f : RegimeUnit → RegimeUnit) : (s.changeRegime f).orders = s.orders := rfl
@[simp] theorem State.changeRegime_pending (s : State) (f : RegimeUnit → RegimeUnit) : (s.changeRegime f).pending = s.pending := rfl
@[simp] theorem State.changeRegime_store (s : State) (f : RegimeUnit → RegimeUnit) : (s.changeRegime f).store = s.store := rfl
@[simp] theorem State.changeRegime_desc (s : State) (f : RegimeUnit → RegimeUnit) : (s.changeRegime f).desc = s.desc := rfl
@[simp] theorem State.changeRegime_panel (s : State) (f : RegimeUnit → RegimeUnit) : (s.changeRegime f).panel = s.panel := rfl
@[simp] theorem State.changeRegime_evac (s : State) (f : RegimeUnit → RegimeUnit) : (s.changeRegime f).evac = s.evac := rfl
@[simp] theorem State.changeRegime_stairs (s : State) (f : RegimeUnit → RegimeUnit) : (s.changeRegime f).stairs = s.stairs := rfl
@[simp] theorem State.changeRegime_lifts (s : State) (f : RegimeUnit → RegimeUnit) : (s.changeRegime f).lifts = s.lifts := rfl
@[simp] theorem State.changeRegime_doors (s : State) (f : RegimeUnit → RegimeUnit) : (s.changeRegime f).doors = s.doors := rfl
@[simp] theorem State.changeRegime_audio (s : State) (f : RegimeUnit → RegimeUnit) : (s.changeRegime f).audio = s.audio := rfl
@[simp] theorem State.changeRegime_links (s : State) (f : RegimeUnit → RegimeUnit) : (s.changeRegime f).links = s.links := rfl

/-! ## changeBuilding -/

@[simp] theorem State.changeBuilding_clock (s : State) (f : BuildingGroup → BuildingGroup) : (s.changeBuilding f).clock = s.clock := rfl
@[simp] theorem State.changeBuilding_choices (s : State) (f : BuildingGroup → BuildingGroup) : (s.changeBuilding f).choices = s.choices := rfl
@[simp] theorem State.changeBuilding_orders (s : State) (f : BuildingGroup → BuildingGroup) : (s.changeBuilding f).orders = s.orders := rfl
@[simp] theorem State.changeBuilding_pending (s : State) (f : BuildingGroup → BuildingGroup) : (s.changeBuilding f).pending = s.pending := rfl
@[simp] theorem State.changeBuilding_store (s : State) (f : BuildingGroup → BuildingGroup) : (s.changeBuilding f).store = s.store := rfl
@[simp] theorem State.changeBuilding_panel (s : State) (f : BuildingGroup → BuildingGroup) : (s.changeBuilding f).panel = s.panel := rfl
@[simp] theorem State.changeBuilding_regime (s : State) (f : BuildingGroup → BuildingGroup) : (s.changeBuilding f).regime = s.regime := rfl
@[simp] theorem State.changeBuilding_evac (s : State) (f : BuildingGroup → BuildingGroup) : (s.changeBuilding f).evac = s.evac := rfl
@[simp] theorem State.changeBuilding_stairs (s : State) (f : BuildingGroup → BuildingGroup) : (s.changeBuilding f).stairs = s.stairs := rfl
@[simp] theorem State.changeBuilding_lifts (s : State) (f : BuildingGroup → BuildingGroup) : (s.changeBuilding f).lifts = s.lifts := rfl
@[simp] theorem State.changeBuilding_doors (s : State) (f : BuildingGroup → BuildingGroup) : (s.changeBuilding f).doors = s.doors := rfl
@[simp] theorem State.changeBuilding_audio (s : State) (f : BuildingGroup → BuildingGroup) : (s.changeBuilding f).audio = s.audio := rfl
@[simp] theorem State.changeBuilding_links (s : State) (f : BuildingGroup → BuildingGroup) : (s.changeBuilding f).links = s.links := rfl

/-! ## changeInput -/

@[simp] theorem State.changeInput_clock (s : State) (f : InputGroup → InputGroup) : (s.changeInput f).clock = s.clock := rfl
@[simp] theorem State.changeInput_choices (s : State) (f : InputGroup → InputGroup) : (s.changeInput f).choices = s.choices := rfl
@[simp] theorem State.changeInput_orders (s : State) (f : InputGroup → InputGroup) : (s.changeInput f).orders = s.orders := rfl
@[simp] theorem State.changeInput_pending (s : State) (f : InputGroup → InputGroup) : (s.changeInput f).pending = s.pending := rfl
@[simp] theorem State.changeInput_store (s : State) (f : InputGroup → InputGroup) : (s.changeInput f).store = s.store := rfl
@[simp] theorem State.changeInput_panel (s : State) (f : InputGroup → InputGroup) : (s.changeInput f).panel = s.panel := rfl
@[simp] theorem State.changeInput_regime (s : State) (f : InputGroup → InputGroup) : (s.changeInput f).regime = s.regime := rfl
@[simp] theorem State.changeInput_evac (s : State) (f : InputGroup → InputGroup) : (s.changeInput f).evac = s.evac := rfl
@[simp] theorem State.changeInput_stairs (s : State) (f : InputGroup → InputGroup) : (s.changeInput f).stairs = s.stairs := rfl
@[simp] theorem State.changeInput_lifts (s : State) (f : InputGroup → InputGroup) : (s.changeInput f).lifts = s.lifts := rfl
@[simp] theorem State.changeInput_doors (s : State) (f : InputGroup → InputGroup) : (s.changeInput f).doors = s.doors := rfl
@[simp] theorem State.changeInput_audio (s : State) (f : InputGroup → InputGroup) : (s.changeInput f).audio = s.audio := rfl
@[simp] theorem State.changeInput_links (s : State) (f : InputGroup → InputGroup) : (s.changeInput f).links = s.links := rfl

/-! ## changeMap -/

@[simp] theorem State.changeMap_clock (s : State) (f : MapGroup → MapGroup) : (s.changeMap f).clock = s.clock := rfl
@[simp] theorem State.changeMap_choices (s : State) (f : MapGroup → MapGroup) : (s.changeMap f).choices = s.choices := rfl
@[simp] theorem State.changeMap_orders (s : State) (f : MapGroup → MapGroup) : (s.changeMap f).orders = s.orders := rfl
@[simp] theorem State.changeMap_pending (s : State) (f : MapGroup → MapGroup) : (s.changeMap f).pending = s.pending := rfl
@[simp] theorem State.changeMap_store (s : State) (f : MapGroup → MapGroup) : (s.changeMap f).store = s.store := rfl
@[simp] theorem State.changeMap_panel (s : State) (f : MapGroup → MapGroup) : (s.changeMap f).panel = s.panel := rfl
@[simp] theorem State.changeMap_regime (s : State) (f : MapGroup → MapGroup) : (s.changeMap f).regime = s.regime := rfl
@[simp] theorem State.changeMap_evac (s : State) (f : MapGroup → MapGroup) : (s.changeMap f).evac = s.evac := rfl
@[simp] theorem State.changeMap_stairs (s : State) (f : MapGroup → MapGroup) : (s.changeMap f).stairs = s.stairs := rfl
@[simp] theorem State.changeMap_lifts (s : State) (f : MapGroup → MapGroup) : (s.changeMap f).lifts = s.lifts := rfl
@[simp] theorem State.changeMap_doors (s : State) (f : MapGroup → MapGroup) : (s.changeMap f).doors = s.doors := rfl
@[simp] theorem State.changeMap_audio (s : State) (f : MapGroup → MapGroup) : (s.changeMap f).audio = s.audio := rfl
@[simp] theorem State.changeMap_links (s : State) (f : MapGroup → MapGroup) : (s.changeMap f).links = s.links := rfl

/-! ## What is written -/

@[simp] theorem State.reportAll_links (s : State) (rs : List Report) :
    (s.reportAll rs).links = LinkUnit.placeAll s.now rs s.links := rfl
@[simp] theorem State.reportAll_nil (s : State) : s.reportAll [] = s := rfl
theorem State.report_eq (s : State) (r : Report) : s.report r = s.reportAll [r] := rfl
@[simp] theorem State.sendAll_orders (s : State) (os : List Order) : (s.sendAll os).orders = s.orders ++ os := rfl
@[simp] theorem State.send_orders (s : State) (o : Order) : (s.send o).orders = s.orders ++ [o] := rfl
@[simp] theorem State.emit_orders {σ : Type} (s : State) (a : Act σ) : (s.emit a).orders = s.orders ++ a.orders := rfl
@[simp] theorem State.emit_links {σ : Type} (s : State) (a : Act σ) :
    (s.emit a).links = LinkUnit.placeAll s.now a.reports s.links := rfl
@[simp] theorem State.onStairs_stairs (s : State) (f : Act StairUnit → Act StairUnit) :
    (s.onStairs f).stairs = (f ⟨s.stairs, [], []⟩).unit := rfl
@[simp] theorem State.onLifts_lifts (s : State) (f : Act LiftUnit → Act LiftUnit) :
    (s.onLifts f).lifts = (f ⟨s.lifts, [], []⟩).unit := rfl
@[simp] theorem State.onDoors_doors (s : State) (f : Act DoorUnit → Act DoorUnit) :
    (s.onDoors f).doors = (f ⟨s.doors, [], []⟩).unit := rfl
@[simp] theorem State.onAudio_audio (s : State) (f : Act AudioUnit → Act AudioUnit) :
    (s.onAudio f).audio = (f ⟨s.audio, [], []⟩).unit := rfl
@[simp] theorem State.changeRegime_regime (s : State) (f : RegimeUnit → RegimeUnit) :
    (s.changeRegime f).regime = f s.regime := rfl
@[simp] theorem State.setQueue_queue (s : State) (q : List QueueEntry) : (s.setQueue q).evac.queue = q := rfl
@[simp] theorem State.setQueue_floors (s : State) (q : List QueueEntry) :
    (s.setQueue q).evac.floors = s.evac.floors := rfl
@[simp] theorem State.setFloor_queue (s : State) (f : Nat) (x : Floor) :
    (s.setFloor f x).evac.queue = s.evac.queue := rfl
@[simp] theorem State.setPoint_ports (s : State) (p : Port) (n : Nat) (x : PointRec) :
    (s.setPoint p n x).panel.ports = s.panel.ports := rfl
@[simp] theorem State.setPort_points (s : State) (p : Port) (x : PortLive) :
    (s.setPort p x).panel.points = s.panel.points := rfl
@[simp] theorem State.changeBuilding_building (s : State) (f : BuildingGroup → BuildingGroup) :
    (s.changeBuilding f).desc.building = f s.desc.building := rfl
@[simp] theorem State.changeInput_input (s : State) (f : InputGroup → InputGroup) :
    (s.changeInput f).desc.input = f s.desc.input := rfl
@[simp] theorem State.changeMap_map (s : State) (f : MapGroup → MapGroup) :
    (s.changeMap f).desc.map = f s.desc.map := rfl
@[simp] theorem State.changeMap_fallback (s : State) (f : MapGroup → MapGroup) :
    (s.changeMap f).desc.fallback = false := rfl

/-! ## The links -/

@[simp] theorem LinkUnit.get_set_same (u : LinkUnit) (l : Link) (x : LinkLive) : (u.set l x).get l = x := by
  cases l <;> rfl
theorem LinkUnit.get_set_other (u : LinkUnit) (l m : Link) (x : LinkLive) (h : m ≠ l) :
    (u.set l x).get m = u.get m := by
  cases l <;> cases m <;> first | rfl | exact absurd rfl h
@[simp] theorem LinkUnit.set_get (u : LinkUnit) (l : Link) : u.set l (u.get l) = u := by cases l <;> rfl
@[simp] theorem LinkUnit.set_set (u : LinkUnit) (l : Link) (x y : LinkLive) : (u.set l x).set l y = u.set l y := by
  cases l <;> rfl
@[simp] theorem State.setLink_link (s : State) (l : Link) (x : LinkLive) : (s.setLink l x).link l = x :=
  LinkUnit.get_set_same s.links l x
theorem State.setLink_link_other (s : State) (l m : Link) (x : LinkLive) (h : m ≠ l) :
    (s.setLink l x).link m = s.link m := LinkUnit.get_set_other s.links l m x h
@[simp] theorem State.setLink_self (s : State) (l : Link) : s.setLink l (s.link l) = s := by
  cases s; cases l <;> rfl
@[simp] theorem State.setLink_setLink (s : State) (l : Link) (x y : LinkLive) :
    (s.setLink l x).setLink l y = s.setLink l y := by cases l <;> rfl

/-! ## Acting on one division -/

@[simp] theorem Act.set_unit {σ : Type} (a : Act σ) (u : σ) : (a.set u).unit = u := rfl
@[simp] theorem Act.set_reports {σ : Type} (a : Act σ) (u : σ) : (a.set u).reports = a.reports := rfl
@[simp] theorem Act.set_orders {σ : Type} (a : Act σ) (u : σ) : (a.set u).orders = a.orders := rfl
@[simp] theorem Act.report_unit {σ : Type} (a : Act σ) (r : Report) : (a.report r).unit = a.unit := rfl
@[simp] theorem Act.report_reports {σ : Type} (a : Act σ) (r : Report) : (a.report r).reports = a.reports ++ [r] := rfl
@[simp] theorem Act.report_orders {σ : Type} (a : Act σ) (r : Report) : (a.report r).orders = a.orders := rfl
@[simp] theorem Act.send_unit {σ : Type} (a : Act σ) (o : Order) : (a.send o).unit = a.unit := rfl
@[simp] theorem Act.send_reports {σ : Type} (a : Act σ) (o : Order) : (a.send o).reports = a.reports := rfl
@[simp] theorem Act.send_orders {σ : Type} (a : Act σ) (o : Order) : (a.send o).orders = a.orders ++ [o] := rfl

end Sys2Proof.Machine
end

