-- ==== Sys2Proof/Laws/Table.lean ====
section
/-! SUPPORT. The laws of the keyed records: what a write reads back as, what it leaves, and that every operation keeps
the canonical form. -/

namespace Sys2Proof.Machine

namespace Table

variable {α : Type}

/-! ## Reading back -/

@[simp] theorem findRow_nil (k : Nat) : findRow k ([] : List (Nat × α)) = none := rfl

theorem findRow_cons (k j : Nat) (v : α) (rest : List (Nat × α)) :
    findRow k ((j, v) :: rest) = if j = k then some v else findRow k rest := rfl

theorem findRow_putRow_same (k : Nat) (v : α) : ∀ l : List (Nat × α), findRow k (putRow k v l) = some v
  | [] => by simp [putRow, findRow]
  | (j, w) :: rest => by
    unfold putRow
    split
    · simp [findRow]
    · split
      · simp [findRow]
      · rename_i h
        rw [findRow_cons, if_neg (fun e => h e.symm)]
        exact findRow_putRow_same k v rest

theorem findRow_putRow_other (k m : Nat) (v : α) (h : m ≠ k) :
    ∀ l : List (Nat × α), findRow m (putRow k v l) = findRow m l
  | [] => by simp [putRow, findRow, Ne.symm h]
  | (j, w) :: rest => by
    unfold putRow
    split
    · rw [findRow_cons, if_neg (Ne.symm h)]
    · split
      · rename_i e
        subst e
        simp [findRow_cons, Ne.symm h]
      · rw [findRow_cons, findRow_cons, findRow_putRow_other k m v h rest]

theorem findRow_dropRow_other (k m : Nat) (h : m ≠ k) :
    ∀ l : List (Nat × α), findRow m (dropRow k l) = findRow m l
  | [] => rfl
  | (j, w) :: rest => by
    unfold dropRow
    split
    · rename_i e
      subst e
      rw [findRow_cons, if_neg (Ne.symm h)]
    · rw [findRow_cons, findRow_cons, findRow_dropRow_other k m h rest]

@[simp] theorem get_empty (k : Nat) : (empty : Table α).get k = none := rfl

@[simp] theorem get_put_same (t : Table α) (k : Nat) (v : α) : (t.put k v).get k = some v :=
  findRow_putRow_same k v t.rows

theorem get_put_other (t : Table α) (k m : Nat) (v : α) (h : m ≠ k) : (t.put k v).get m = t.get m :=
  findRow_putRow_other k m v h t.rows

theorem get_put (t : Table α) (k m : Nat) (v : α) : (t.put k v).get m = if m = k then some v else t.get m := by
  split
  · rename_i h
    rw [h, get_put_same]
  · rename_i h
    exact get_put_other t k m v h

theorem get_drop_other (t : Table α) (k m : Nat) (h : m ≠ k) : (t.drop k).get m = t.get m :=
  findRow_dropRow_other k m h t.rows

/-! ## The canonical form -/

theorem sorted_iff : ∀ l : List Nat, sorted l = true ↔ l.Pairwise (· < ·)
  | [] => by simp [sorted]
  | [j] => by simp [sorted]
  | j :: k :: rest => by
    rw [sorted, Bool.and_eq_true, sorted_iff (k :: rest)]
    simp only [decide_eq_true_eq, List.pairwise_cons, List.mem_cons, forall_eq_or_imp]
    constructor
    · rintro ⟨h, hk, hr⟩
      exact ⟨⟨h, fun a ha => Nat.lt_trans h (hk a ha)⟩, hk, hr⟩
    · rintro ⟨⟨h, -⟩, hk, hr⟩
      exact ⟨h, hk, hr⟩

theorem wf_iff (t : Table α) : t.wf = true ↔ (t.rows.map (·.1)).Pairwise (· < ·) := sorted_iff _

theorem wf_empty : (empty : Table α).wf = true := rfl

theorem mem_putRow (k : Nat) (v : α) : ∀ (l : List (Nat × α)) (x : Nat × α), x ∈ putRow k v l → x = (k, v) ∨ x ∈ l
  | [], x, h => by simpa [putRow] using h
  | (j, w) :: rest, x, h => by
    unfold putRow at h
    split at h
    · simpa using h
    · split at h
      · rcases List.mem_cons.1 h with h | h
        · exact .inl h
        · exact .inr (List.mem_cons_of_mem _ h)
      · rcases List.mem_cons.1 h with h | h
        · exact .inr (h ▸ List.mem_cons_self)
        · exact (mem_putRow k v rest x h).imp_right (List.mem_cons_of_mem _)

theorem dropRow_sublist (k : Nat) : ∀ l : List (Nat × α), (dropRow k l).Sublist l
  | [] => List.Sublist.refl _
  | (j, w) :: rest => by
    unfold dropRow
    split
    · exact List.sublist_cons_self _ _
    · exact (dropRow_sublist k rest).cons_cons _

theorem putRow_sorted (k : Nat) (v : α) : ∀ l : List (Nat × α),
    (l.map (·.1)).Pairwise (· < ·) → ((putRow k v l).map (·.1)).Pairwise (· < ·)
  | [], _ => by simp [putRow]
  | (j, w) :: rest, h => by
    obtain ⟨hj, hr⟩ := List.pairwise_cons.1 h
    unfold putRow
    split
    · rename_i hk
      refine List.pairwise_cons.2 ⟨fun a ha => ?_, h⟩
      rcases List.mem_cons.1 ha with rfl | ha
      · exact hk
      · exact Nat.lt_trans hk (hj a ha)
    · split
      · rename_i hk
        subst hk
        exact List.pairwise_cons.2 ⟨hj, hr⟩
      · rename_i h1 h2
        refine List.pairwise_cons.2 ⟨fun a ha => ?_, putRow_sorted k v rest hr⟩
        obtain ⟨x, hx, rfl⟩ := List.mem_map.1 ha
        rcases mem_putRow k v rest x hx with rfl | hx
        · show j < k
          omega
        · exact hj _ (List.mem_map_of_mem hx)

theorem wf_put (t : Table α) (k : Nat) (v : α) (h : t.wf = true) : (t.put k v).wf = true :=
  (wf_iff _).2 (putRow_sorted k v t.rows ((wf_iff t).1 h))

theorem wf_drop (t : Table α) (k : Nat) (h : t.wf = true) : (t.drop k).wf = true :=
  (wf_iff _).2 (((wf_iff t).1 h).sublist ((dropRow_sublist k t.rows).map _))

theorem wf_map (t : Table α) (f : Nat → α → α) (h : t.wf = true) : (t.map f).wf = true := by
  rw [wf_iff] at *
  simpa [map, Function.comp_def] using h

theorem findRow_eq_none (k : Nat) : ∀ l : List (Nat × α), (∀ x ∈ l, x.1 ≠ k) → findRow k l = none
  | [], _ => rfl
  | (j, w) :: rest, h => by
    rw [findRow_cons, if_neg (h (j, w) List.mem_cons_self)]
    exact findRow_eq_none k rest fun x hx => h x (List.mem_cons_of_mem _ hx)

theorem findRow_dropRow_same (k : Nat) : ∀ l : List (Nat × α),
    (l.map (·.1)).Pairwise (· < ·) → findRow k (dropRow k l) = none
  | [], _ => rfl
  | (j, w) :: rest, h => by
    obtain ⟨hj, hr⟩ := List.pairwise_cons.1 h
    unfold dropRow
    split
    · rename_i e
      subst e
      exact findRow_eq_none _ rest fun x hx => Nat.ne_of_gt (hj _ (List.mem_map_of_mem hx))
    · rename_i e
      rw [findRow_cons, if_neg e]
      exact findRow_dropRow_same k rest hr

theorem get_drop_same (t : Table α) (k : Nat) (h : t.wf = true) : (t.drop k).get k = none :=
  findRow_dropRow_same k t.rows ((wf_iff t).1 h)

theorem get_drop (t : Table α) (k m : Nat) (h : t.wf = true) :
    (t.drop k).get m = if m = k then none else t.get m := by
  split
  · rename_i e
    rw [e, get_drop_same t k h]
  · rename_i e
    exact get_drop_other t k m e

/-! ## Rows -/

theorem findRow_mem (k : Nat) (v : α) : ∀ l : List (Nat × α), findRow k l = some v → (k, v) ∈ l
  | (j, w) :: rest, h => by
    rw [findRow_cons] at h
    split at h
    · rename_i e
      cases h
      exact e ▸ List.mem_cons_self
    · exact List.mem_cons_of_mem _ (findRow_mem k v rest h)

theorem mem_findRow (k : Nat) (v : α) : ∀ l : List (Nat × α),
    (l.map (·.1)).Pairwise (· < ·) → (k, v) ∈ l → findRow k l = some v
  | (j, w) :: rest, h, hm => by
    obtain ⟨hj, hr⟩ := List.pairwise_cons.1 h
    rw [findRow_cons]
    rcases List.mem_cons.1 hm with e | hm
    · cases e
      simp
    · rw [if_neg (Nat.ne_of_lt (hj k (List.mem_map_of_mem hm)))]
      exact mem_findRow k v rest hr hm

/-- In the canonical form the rows are exactly the records that can be read. -/
theorem get_iff_mem (t : Table α) (k : Nat) (v : α) (h : t.wf = true) : t.get k = some v ↔ (k, v) ∈ t.rows :=
  ⟨findRow_mem k v t.rows, mem_findRow k v t.rows ((wf_iff t).1 h)⟩

theorem get_map (t : Table α) (f : Nat → α → α) (k : Nat) : (t.map f).get k = (t.get k).map (f k) := by
  obtain ⟨l⟩ := t
  show findRow k (l.map _) = (findRow k l).map _
  induction l with
  | nil => rfl
  | cons x rest ih =>
    obtain ⟨j, w⟩ := x
    rw [List.map_cons, findRow_cons, findRow_cons]
    split
    · rename_i e
      cases e
      rfl
    · exact ih

/-! ## Tables with a default -/

variable [DecidableEq α]

theorem wfDefault_iff (t : Table α) (d : α) : t.wfDefault d = true ↔ t.wf = true ∧ ∀ r ∈ t.rows, r.2 ≠ d := by
  simp [wfDefault]

theorem wfDefault_empty (d : α) : (empty : Table α).wfDefault d = true := rfl

theorem wf_write (t : Table α) (d : α) (k : Nat) (v : α) (h : t.wf = true) : (t.write d k v).wf = true := by
  unfold write
  split
  · exact wf_drop t k h
  · exact wf_put t k v h

theorem wfDefault_write (t : Table α) (d : α) (k : Nat) (v : α) (h : t.wfDefault d = true) :
    (t.write d k v).wfDefault d = true := by
  obtain ⟨hw, hd⟩ := (wfDefault_iff t d).1 h
  refine (wfDefault_iff _ d).2 ⟨wf_write t d k v hw, fun r hr => ?_⟩
  unfold write at hr
  split at hr
  · exact hd r ((dropRow_sublist k t.rows).subset hr)
  · rename_i hv
    rcases mem_putRow k v t.rows r hr with rfl | hr
    · exact hv
    · exact hd r hr

theorem read_write_same (t : Table α) (d : α) (k : Nat) (v : α) (h : t.wf = true) : (t.write d k v).read d k = v := by
  unfold write read
  split
  · rename_i e
    rw [get_drop_same t k h, e, Option.getD_none]
  · rw [get_put_same, Option.getD_some]

theorem read_write_other (t : Table α) (d : α) (k m : Nat) (v : α) (h : m ≠ k) :
    (t.write d k v).read d m = t.read d m := by
  unfold write read
  split
  · rw [get_drop_other t k m h]
  · rw [get_put_other t k m v h]

theorem read_write (t : Table α) (d : α) (k m : Nat) (v : α) (h : t.wf = true) :
    (t.write d k v).read d m = if m = k then v else t.read d m := by
  split
  · rename_i e
    rw [e, read_write_same t d k v h]
  · rename_i e
    exact read_write_other t d k m v e

end Table

end Sys2Proof.Machine
end

