-- ==== Sys2Proof/Laws/Ops.lean ====
section
/-! SUPPORT. For each shared operation, one lemma that says everything it can do: the report queues, the records of
points, ports and floors, requests and frames, times, the store, and the reply body. -/

namespace Sys2Proof.Machine

/-! ## Report queues (R163, R164) -/

/-- A report placed: the queue keeps its last 64, and the flag is set where one is lost. -/
theorem LinkLive.place_eq (q : LinkLive) (r : ReportRecord) :
    q.place r = { q with
      reports := if q.reports.length < 64 then q.reports ++ [r] else q.reports.drop 1 ++ [r]
      overflow := if q.reports.length < 64 then q.overflow else true } := by
  unfold place Config.reportCapacity
  split <;> simp [*]

theorem LinkLive.place_length (q : LinkLive) (r : ReportRecord) (h : q.reports.length ≤ 64) :
    (q.place r).reports.length ≤ 64 := by
  rw [place_eq]
  dsimp only
  split
  · simp; omega
  · simp; omega

theorem LinkUnit.place_host (u : LinkUnit) (r : ReportRecord) : (u.place r).host = u.host.place r := rfl

theorem LinkUnit.place_service (u : LinkUnit) (r : ReportRecord) :
    (u.place r).service = if r.report.cls.toService then u.service.place r else u.service := rfl

@[simp] theorem LinkUnit.placeAll_nil (t : Seconds) (u : LinkUnit) : LinkUnit.placeAll t [] u = u := rfl

@[simp] theorem LinkUnit.placeAll_cons (t : Seconds) (r : Report) (rs : List Report) (u : LinkUnit) :
    LinkUnit.placeAll t (r :: rs) u = LinkUnit.placeAll t rs (u.place ⟨t, r⟩) := rfl

theorem LinkUnit.placeAll_append (t : Seconds) : ∀ (rs qs : List Report) (u : LinkUnit),
    LinkUnit.placeAll t (rs ++ qs) u = LinkUnit.placeAll t qs (LinkUnit.placeAll t rs u)
  | [], _, _ => rfl
  | r :: rs, qs, u => LinkUnit.placeAll_append t rs qs (u.place ⟨t, r⟩)

/-- What placing reports leaves of a link: all but its queue and its flag. -/
theorem LinkLive.place_rest (q : LinkLive) (r : ReportRecord) :
    { q.place r with reports := q.reports, overflow := q.overflow } = q := by
  unfold LinkLive.place
  split <;> rfl

/-- Reports placed change a link in its queue and its flag only. -/
theorem LinkUnit.placeAll_rest (t : Seconds) (l : Link) : ∀ (rs : List Report) (u : LinkUnit),
    { (LinkUnit.placeAll t rs u).get l with reports := (u.get l).reports, overflow := (u.get l).overflow } = u.get l
  | [], _ => rfl
  | r :: rs, u => by
    have h := LinkUnit.placeAll_rest t l rs (u.place ⟨t, r⟩)
    have hp : { (u.place ⟨t, r⟩).get l with
        reports := (u.get l).reports, overflow := (u.get l).overflow } = u.get l := by
      cases l
      · exact LinkLive.place_rest u.host _
      · rw [show (u.place ⟨t, r⟩).get .service
          = if r.cls.toService then u.service.place ⟨t, r⟩ else u.service from rfl]
        split
        · exact LinkLive.place_rest u.service _
        · rfl
    calc { (LinkUnit.placeAll t (r :: rs) u).get l with
            reports := (u.get l).reports, overflow := (u.get l).overflow }
        = { ({ (LinkUnit.placeAll t rs (u.place ⟨t, r⟩)).get l with
              reports := ((u.place ⟨t, r⟩).get l).reports
              overflow := ((u.place ⟨t, r⟩).get l).overflow } : LinkLive) with
            reports := (u.get l).reports, overflow := (u.get l).overflow } := rfl
      _ = { (u.place ⟨t, r⟩).get l with reports := (u.get l).reports, overflow := (u.get l).overflow } := by rw [h]
      _ = u.get l := hp

/-- Reports placed keep each queue within 64 reports. -/
theorem LinkUnit.placeAll_length (t : Seconds) : ∀ (rs : List Report) (u : LinkUnit),
    u.host.reports.length ≤ 64 → u.service.reports.length ≤ 64 →
      (LinkUnit.placeAll t rs u).host.reports.length ≤ 64 ∧ (LinkUnit.placeAll t rs u).service.reports.length ≤ 64
  | [], _, h, k => ⟨h, k⟩
  | r :: rs, u, h, k => by
    refine LinkUnit.placeAll_length t rs (u.place ⟨t, r⟩) (u.host.place_length _ h) ?_
    rw [LinkUnit.place_service]
    split
    · exact u.service.place_length _ k
    · exact k

/-! ## Records -/

theorem State.floor_setFloor_same (s : State) (f : Nat) (x : Floor) (h : s.evac.floors.wf = true) :
    (s.setFloor f x).floor f = x := Table.read_write_same _ _ _ _ h

theorem State.floor_setFloor_other (s : State) (f g : Nat) (x : Floor) (h : g ≠ f) :
    (s.setFloor f x).floor g = s.floor g := Table.read_write_other _ _ _ _ _ h

@[simp] theorem State.floor_setQueue (s : State) (q : List QueueEntry) (f : Nat) :
    (s.setQueue q).floor f = s.floor f := rfl

theorem State.point_setPoint_same (s : State) (p : Port) (n : Nat) (x : PointRec) (h : s.panel.points.wf = true) :
    (s.setPoint p n x).point p n = x := Table.read_write_same _ _ _ _ h

/-- A point and its key stand for each other within 1 to 1023. -/
theorem pointKey_injective (p q : Port) (m n : Nat) (hm : m ≤ 1023) (hn : n ≤ 1023)
    (h : pointKey p m = pointKey q n) : p = q ∧ m = n := by
  unfold pointKey at h
  have hk : portIndex p = portIndex q := by omega
  refine ⟨?_, by omega⟩
  cases p <;> cases q <;> first | rfl | cases hk

theorem State.point_setPoint_other (s : State) (p q : Port) (m n : Nat) (x : PointRec) (hm : m ≤ 1023) (hn : n ≤ 1023)
    (h : q ≠ p ∨ m ≠ n) : (s.setPoint p n x).point q m = s.point q m :=
  Table.read_write_other _ _ _ _ _ fun e =>
    h.elim (fun k => k (pointKey_injective q p m n hm hn e).1) fun k => k (pointKey_injective q p m n hm hn e).2

theorem portNumber_injective (p q : Port) (h : portNumber p = portNumber q) : p = q := by
  cases p <;> cases q <;> first | rfl | cases h

theorem State.port_setPort_same (s : State) (p : Port) (x : PortLive) (h : s.panel.ports.wf = true) :
    (s.setPort p x).port p = x := Table.read_write_same _ _ _ _ h

theorem State.port_setPort_other (s : State) (p q : Port) (x : PortLive) (h : q ≠ p) :
    (s.setPort p x).port q = s.port q :=
  Table.read_write_other _ _ _ _ _ fun e => h (portNumber_injective q p e)

@[simp] theorem State.point_setPort (s : State) (p q : Port) (x : PortLive) (n : Nat) :
    (s.setPort p x).point q n = s.point q n := rfl

@[simp] theorem State.port_setPoint (s : State) (p q : Port) (n : Nat) (x : PointRec) :
    (s.setPoint p n x).port q = s.port q := rfl

/-! ## Requests and frames (R157 to R159) -/

/-- A good frame is carried out, held, or discarded, and nothing else. -/
theorem takeFrame_cases (l : Link) (c : Instr) (s carried : State) :
    ((s.link l).inHand = none ∧ (s.link l).held = none ∧ takeFrame l c s carried = carried)
      ∨ ((s.link l).inHand ≠ none ∧ (s.link l).held = none
        ∧ takeFrame l c s carried = s.setLink l { s.link l with held := some c })
      ∨ ((s.link l).held ≠ none ∧ takeFrame l c s carried = s) := by
  unfold takeFrame
  cases (s.link l).inHand <;> cases (s.link l).held <;> simp

/-- A request taken with none in hand and none held on its link: what its division answers, and the reply to it. -/
theorem takeRequest_free (l : Link) (h : Header) (kind : Nat) (c : Instr) (s : State)
    (carry : Nat → State × Answer) (hf : (s.link l).inHand = none) (hh : (s.link l).held = none) :
    takeRequest l h kind c s carry
      = (carry (effectiveLevel l h)).1.reply l h.station (effectiveLevel l h) h.tag kind
          (carry (effectiveLevel l h)).2 := by
  unfold takeRequest takeFrame
  simp [hf, hh]

/-- The request in hand carried out: what exec makes of it with its link free, and the frame held behind it held still. -/
theorem State.performRequest_cases (s : State) (l : Link) (c : Instr) :
    (∃ t, exec c (s.setLink l { s.link l with inHand := none, held := none }) = .next t
        ∧ s.performRequest l c = .next (t.setLink l { t.link l with held := (s.link l).held }))
      ∨ ((∀ t, exec c (s.setLink l { s.link l with inHand := none, held := none }) ≠ .next t)
        ∧ s.performRequest l c = exec c (s.setLink l { s.link l with inHand := none, held := none })) := by
  unfold State.performRequest
  cases exec c (s.setLink l { s.link l with inHand := none, held := none }) with
  | next t => exact .inl ⟨t, rfl, rfl⟩
  | fault f => exact .inr ⟨fun _ h => (nomatch h), rfl⟩
  | refused r => exact .inr ⟨fun _ h => (nomatch h), rfl⟩

/-- A reply writes the last reply of its link, with the count of the reports then waiting there. -/
theorem State.reply_eq (s : State) (l : Link) (station level tag kind : Nat) (a : Answer) :
    s.reply l station level tag kind a = s.setLink l { s.link l with
      reply := some { station := station, level := level, tag := tag, kind := kind, verdict := a.verdict
                      waiting := (s.link l).reports.length, body := cutBody a.body } } := rfl

theorem fitItems_length (room : Nat) : ∀ l : List (List Byte), (fitItems room l).flatten.length ≤ room
  | [] => by simp [fitItems]
  | x :: rest => by
    unfold fitItems
    split
    · rename_i h
      have := fitItems_length (room - x.length) rest
      rw [List.flatten_cons, List.length_append]
      omega
    · simp

/-- A reply body never passes 240 bytes (R161). -/
theorem cutBody_length (items : List (List Byte)) : (cutBody items).length ≤ 240 := by
  unfold cutBody Config.bodyLimit
  split
  · assumption
  · have : (fitItems (240 - 1) items).flatten.length ≤ 239 := fitItems_length 239 items
    simp only [List.length_append, List.length_singleton]
    omega

theorem cutBody_eq (items : List (List Byte)) (h : items.flatten.length ≤ 240) : cutBody items = items.flatten :=
  if_pos h

/-! ## The fit test (R97) -/

/-- The fit test looks only at the shares that are not 0. -/
theorem State.fits_iff (s : State) (sh : List (Stair × Nat)) :
    s.fits sh = true ↔ ∀ x ∈ sh, x.2 ≠ 0 →
      ∃ r, s.stairRec x.1 = some r ∧ (s.stairs.stair x.1).load + x.2 ≤ r.capacity := by
  unfold State.fits
  rw [List.all_eq_true]
  refine forall₂_congr fun x _ => ?_
  cases s.stairRec x.1 <;> by_cases h : x.2 = 0 <;> simp [h]

/-! ## Times (R160) -/

/-- The seconds remaining to a deadline that lies a duration below 2^31 s ahead are that duration. -/
theorem State.secondsTo_addSeconds (s : State) (n : Nat) (h : n < 2 ^ 31) : s.secondsTo (addSeconds s.now n) = n := by
  have hd : (addSeconds s.now n - s.now).toNat = n := by
    rw [addSeconds, BitVec.add_comm, BitVec.add_sub_cancel, BitVec.toNat_ofNat]
    omega
  simp only [secondsTo, later, hd]
  by_cases h0 : n = 0
  · simp [h0]
  · simp; omega

/-- No seconds remain to a time that the count has reached. -/
theorem State.secondsTo_reached (s : State) (t : Seconds) (h : later t s.now = false) : s.secondsTo t = 0 := by
  simp [secondsTo, h]

/-! ## The zone matrix (R150) -/

/-- A change of a floor's entry: the unit it makes, with what was made before kept and only orders to its switch added. -/
theorem Act.changeEntry_eq (a : Act AudioUnit) (f : Nat) (g : FloorEntry → FloorEntry) :
    a.changeEntry f g = { a with
      unit := a.unit.setFloor f (g (a.unit.floor f))
      orders := a.orders ++ switchOrder a.unit (a.unit.setFloor f (g (a.unit.floor f))) f } := by
  simp [Act.changeEntry, Act.retune]

/-- A floor whose switch stays gets no order. -/
theorem switchOrder_same (old new : AudioUnit) (f : Nat) (h : new.zoneSwitch f = old.zoneSwitch f) :
    switchOrder old new f = [] := by simp [switchOrder, h]

/-- A change under which every switch concerned stays makes no order. -/
theorem Act.retune_same (a : Act AudioUnit) (fs : List Nat) (u : AudioUnit)
    (h : ∀ f ∈ fs, u.zoneSwitch f = a.unit.zoneSwitch f) : a.retune fs u = a.set u := by
  have : fs.flatMap (switchOrder a.unit u) = [] :=
    List.flatMap_eq_nil_iff.2 fun f hf => switchOrder_same _ _ _ (h f hf)
  simp [Act.retune, Act.set, this]

/-! ## The store (R3) -/

/-- A load written through: what the group's keeping state, the store and the queues become. -/
theorem State.writeThrough_cases (s : State) (g : StoreGroup) (w : StoreWrite) :
    (w = .written ∧ (s.writeThrough g w).2 = false
        ∧ (s.writeThrough g w).1.desc = s.desc.setKeeping g .kept
        ∧ (s.writeThrough g w).1.store = s.store.writeGroup (s.desc.setKeeping g .kept) g)
      ∨ (w = .failed ∧ (s.writeThrough g w).2 = true
        ∧ (s.writeThrough g w).1.desc = s.desc.setKeeping g .unkept ∧ (s.writeThrough g w).1.store = s.store) := by
  cases w
  · refine .inl ⟨rfl, rfl, ?_, ?_⟩ <;> · unfold State.writeThrough; dsimp only; split <;> rfl
  · exact .inr ⟨rfl, rfl, rfl, rfl⟩

/-- A load written through leaves all but the description, the store and the queues. -/
theorem State.writeThrough_rest (s : State) (g : StoreGroup) (w : StoreWrite) :
    { (s.writeThrough g w).1 with desc := s.desc, store := s.store, links := s.links } = s := by
  cases w
  · unfold State.writeThrough; dsimp only; split <;> rfl
  · rfl

@[simp] theorem Description.keeping_setKeeping (d : Description) (g : StoreGroup) (k : Keeping) :
    (d.setKeeping g k).keeping g = k := by cases g <;> rfl

end Sys2Proof.Machine
end

