-- ==== Sys2Proof/Laws/PerInstr.lean ====
section
/-! SUPPORT. What is so of every command as syntax, one lemma for each constructor. -/

namespace Sys2Proof.Laws.RequestForm

open Sys2Proof Sys2Proof.Machine

/-- A command whose request has bytes was sent on that link with that header, and its kind is one of the 33 kinds of
Figure 10-6. -/
def Statement (i : Instr) : Prop :=
  ∀ l h body, Instr.request i = some (l, h, body) →
    sentBy i = some (l, h) ∧ ∃ k, Instr.kind i = some k ∧ 1 ≤ k ∧ k ≤ 33

/-- The lemmas of the requests, whose bytes are made from a body that is there. -/
theorem of_map {α : Type} (i : Instr) (l : Link) (h : Header) (b : Option α) (f : α → List Byte) (k : Nat)
    (hr : Instr.request i = b.map fun x => (l, h, f x)) (hs : sentBy i = some (l, h)) (hk : Instr.kind i = some k)
    (h1 : 1 ≤ k) (h33 : k ≤ 33) : Statement i := by
  intro m g body e
  rw [hr] at e
  cases b with
  | none => cases e
  | some x =>
    cases e
    exact ⟨hs, k, hk, h1, h33⟩

theorem coldStart (answers buildingGood inputGood mapGood : Bool) : Statement (.coldStart answers buildingGood inputGood mapGood) :=
    fun _ _ _ e => nomatch e
theorem status (l : Link) (h : Header) (b : Option Unit) : Statement (.status l h b) :=
    of_map _ l h _ _ _ rfl rfl rfl (by decide) (by decide)
theorem fetchReports (l : Link) (h : Header) (b : Option Unit) : Statement (.fetchReports l h b) :=
    of_map _ l h _ _ _ rfl rfl rfl (by decide) (by decide)
theorem queryFloor (l : Link) (h : Header) (b : Option Nat) : Statement (.queryFloor l h b) :=
    of_map _ l h _ _ _ rfl rfl rfl (by decide) (by decide)
theorem queryStair (l : Link) (h : Header) (b : Option Nat) : Statement (.queryStair l h b) :=
    of_map _ l h _ _ _ rfl rfl rfl (by decide) (by decide)
theorem queryCar (l : Link) (h : Header) (b : Option Nat) : Statement (.queryCar l h b) :=
    of_map _ l h _ _ _ rfl rfl rfl (by decide) (by decide)
theorem queryBank (l : Link) (h : Header) (b : Option Nat) : Statement (.queryBank l h b) :=
    of_map _ l h _ _ _ rfl rfl rfl (by decide) (by decide)
theorem queryDoor (l : Link) (h : Header) (b : Option DoorRef) : Statement (.queryDoor l h b) :=
    of_map _ l h _ _ _ rfl rfl rfl (by decide) (by decide)
theorem querySection (l : Link) (h : Header) (b : Option Nat) : Statement (.querySection l h b) :=
    of_map _ l h _ _ _ rfl rfl rfl (by decide) (by decide)
theorem queryZone (l : Link) (h : Header) (b : Option Nat) : Statement (.queryZone l h b) :=
    of_map _ l h _ _ _ rfl rfl rfl (by decide) (by decide)
theorem queryRange (l : Link) (h : Header) (b : Option PointRef) : Statement (.queryRange l h b) :=
    of_map _ l h _ _ _ rfl rfl rfl (by decide) (by decide)
theorem queryIncident (l : Link) (h : Header) (b : Option Nat) : Statement (.queryIncident l h b) :=
    of_map _ l h _ _ _ rfl rfl rfl (by decide) (by decide)
theorem queryInstance (l : Link) (h : Header) (b : Option Nat) : Statement (.queryInstance l h b) :=
    of_map _ l h _ _ _ rfl rfl rfl (by decide) (by decide)
theorem queryPort (l : Link) (h : Header) (b : Option Nat) : Statement (.queryPort l h b) :=
    of_map _ l h _ _ _ rfl rfl rfl (by decide) (by decide)
theorem queryPoint (l : Link) (h : Header) (b : Option PointRef) : Statement (.queryPoint l h b) :=
    of_map _ l h _ _ _ rfl rfl rfl (by decide) (by decide)
theorem scanFloors (l : Link) (h : Header) (b : Option Scan) : Statement (.scanFloors l h b) :=
    of_map _ l h _ _ _ rfl rfl rfl (by decide) (by decide)
theorem setOccupancy (l : Link) (h : Header) (b : Option OccupancySet) : Statement (.setOccupancy l h b) :=
    of_map _ l h _ _ _ rfl rfl rfl (by decide) (by decide)
theorem adjustOccupancy (l : Link) (h : Header) (b : Option OccupancyAdjust) : Statement (.adjustOccupancy l h b) :=
    of_map _ l h _ _ _ rfl rfl rfl (by decide) (by decide)
theorem setBuilding (l : Link) (h : Header) (w : StoreWrite) (b : Option BuildingLoad) : Statement (.setBuilding l h w b) :=
    of_map _ l h _ _ _ rfl rfl rfl (by decide) (by decide)
theorem setFloor (l : Link) (h : Header) (w : StoreWrite) (b : Option FloorLoad) : Statement (.setFloor l h w b) :=
    of_map _ l h _ _ _ rfl rfl rfl (by decide) (by decide)
theorem setStair (l : Link) (h : Header) (w : StoreWrite) (b : Option StairLoad) : Statement (.setStair l h w b) :=
    of_map _ l h _ _ _ rfl rfl rfl (by decide) (by decide)
theorem setBank (l : Link) (h : Header) (w : StoreWrite) (b : Option BankLoad) : Statement (.setBank l h w b) :=
    of_map _ l h _ _ _ rfl rfl rfl (by decide) (by decide)
theorem setCar (l : Link) (h : Header) (w : StoreWrite) (b : Option CarLoad) : Statement (.setCar l h w b) :=
    of_map _ l h _ _ _ rfl rfl rfl (by decide) (by decide)
theorem setSection (l : Link) (h : Header) (w : StoreWrite) (b : Option SectionLoad) : Statement (.setSection l h w b) :=
    of_map _ l h _ _ _ rfl rfl rfl (by decide) (by decide)
theorem setDoor (l : Link) (h : Header) (w : StoreWrite) (b : Option DoorLoad) : Statement (.setDoor l h w b) :=
    of_map _ l h _ _ _ rfl rfl rfl (by decide) (by decide)
theorem setPhrase (l : Link) (h : Header) (w : StoreWrite) (b : Option PhraseLoad) : Statement (.setPhrase l h w b) :=
    of_map _ l h _ _ _ rfl rfl rfl (by decide) (by decide)
theorem setTemplate (l : Link) (h : Header) (w : StoreWrite) (b : Option TemplateLoad) : Statement (.setTemplate l h w b) :=
    of_map _ l h _ _ _ rfl rfl rfl (by decide) (by decide)
theorem setPort (l : Link) (h : Header) (w : StoreWrite) (b : Option PortLoad) : Statement (.setPort l h w b) :=
    of_map _ l h _ _ _ rfl rfl rfl (by decide) (by decide)
theorem setZone (l : Link) (h : Header) (w : StoreWrite) (b : Option ZoneLoad) : Statement (.setZone l h w b) :=
    of_map _ l h _ _ _ rfl rfl rfl (by decide) (by decide)
theorem setRange (l : Link) (h : Header) (w : StoreWrite) (b : Option RangeLoad) : Statement (.setRange l h w b) :=
    of_map _ l h _ _ _ rfl rfl rfl (by decide) (by decide)
theorem clearRange (l : Link) (h : Header) (w : StoreWrite) (b : Option PointRef) : Statement (.clearRange l h w b) :=
    of_map _ l h _ _ _ rfl rfl rfl (by decide) (by decide)
theorem isolateZone (l : Link) (h : Header) (w : StoreWrite) (b : Option Nat) : Statement (.isolateZone l h w b) :=
    of_map _ l h _ _ _ rfl rfl rfl (by decide) (by decide)
theorem restoreZone (l : Link) (h : Header) (w : StoreWrite) (b : Option Nat) : Statement (.restoreZone l h w b) :=
    of_map _ l h _ _ _ rfl rfl rfl (by decide) (by decide)
theorem stairUse (l : Link) (h : Header) (w : StoreWrite) (b : Option StairUse) : Statement (.stairUse l h w b) :=
    of_map _ l h _ _ _ rfl rfl rfl (by decide) (by decide)
theorem relatch (l : Link) (h : Header) (b : Option Nat) : Statement (.relatch l h b) :=
    of_map _ l h _ _ _ rfl rfl rfl (by decide) (by decide)
theorem panelReset (l : Link) (h : Header) (b : Option Nat) : Statement (.panelReset l h b) :=
    of_map _ l h _ _ _ rfl rfl rfl (by decide) (by decide)
theorem startDrill (l : Link) (h : Header) (b : Option DrillStart) : Statement (.startDrill l h b) :=
    of_map _ l h _ _ _ rfl rfl rfl (by decide) (by decide)
theorem endDrill (l : Link) (h : Header) (b : Option Unit) : Statement (.endDrill l h b) :=
    of_map _ l h _ _ _ rfl rfl rfl (by decide) (by decide)
theorem general (l : Link) (h : Header) (b : Option Unit) : Statement (.general l h b) :=
    of_map _ l h _ _ _ rfl rfl rfl (by decide) (by decide)
theorem standDown (l : Link) (h : Header) (b : Option Unit) : Statement (.standDown l h b) :=
    of_map _ l h _ _ _ rfl rfl rfl (by decide) (by decide)
theorem floorCommandEvacuate (l : Link) (h : Header) (b : Option Nat) : Statement (.floorCommandEvacuate l h b) :=
    of_map _ l h _ _ _ rfl rfl rfl (by decide) (by decide)
theorem floorCommandDefend (l : Link) (h : Header) (b : Option Nat) : Statement (.floorCommandDefend l h b) :=
    of_map _ l h _ _ _ rfl rfl rfl (by decide) (by decide)
theorem floorCommandAlert (l : Link) (h : Header) (b : Option Nat) : Statement (.floorCommandAlert l h b) :=
    of_map _ l h _ _ _ rfl rfl rfl (by decide) (by decide)
theorem doorCommandForce (l : Link) (h : Header) (b : Option DoorRef) : Statement (.doorCommandForce l h b) :=
    of_map _ l h _ _ _ rfl rfl rfl (by decide) (by decide)
theorem doorCommandHold (l : Link) (h : Header) (b : Option DoorRef) : Statement (.doorCommandHold l h b) :=
    of_map _ l h _ _ _ rfl rfl rfl (by decide) (by decide)
theorem doorCommandNormal (l : Link) (h : Header) (b : Option DoorRef) : Statement (.doorCommandNormal l h b) :=
    of_map _ l h _ _ _ rfl rfl rfl (by decide) (by decide)
theorem doorCommandRetry (l : Link) (h : Header) (b : Option DoorRef) : Statement (.doorCommandRetry l h b) :=
    of_map _ l h _ _ _ rfl rfl rfl (by decide) (by decide)
theorem carCommandRecall (l : Link) (h : Header) (b : Option Nat) : Statement (.carCommandRecall l h b) :=
    of_map _ l h _ _ _ rfl rfl rfl (by decide) (by decide)
theorem carCommandReturn (l : Link) (h : Header) (b : Option Nat) : Statement (.carCommandReturn l h b) :=
    of_map _ l h _ _ _ rfl rfl rfl (by decide) (by decide)
theorem announce (l : Link) (h : Header) (b : Option Announcement) : Statement (.announce l h b) :=
    of_map _ l h _ _ _ rfl rfl rfl (by decide) (by decide)
theorem cancelAnnounce (l : Link) (h : Header) (b : Option Nat) : Statement (.cancelAnnounce l h b) :=
    of_map _ l h _ _ _ rfl rfl rfl (by decide) (by decide)
theorem invalidKind (l : Link) (h : Header) (kind : Nat) : Statement (.invalidKind l h kind) :=
    fun _ _ _ e => nomatch e
theorem badClaimedLevel (l : Link) (station tag kind : Nat) : Statement (.badClaimedLevel l station tag kind) :=
    fun _ _ _ e => nomatch e
theorem frameCrcDiscard (l : Link) : Statement (.frameCrcDiscard l) := fun _ _ _ e => nomatch e
theorem frameHeldDiscard (l : Link) : Statement (.frameHeldDiscard l) := fun _ _ _ e => nomatch e
theorem heldFrameTaken (l : Link) : Statement (.heldFrameTaken l) := fun _ _ _ e => nomatch e
theorem lineBreak (l : Link) : Statement (.lineBreak l) := fun _ _ _ e => nomatch e
theorem receiverSilenceExpiry (l : Link) : Statement (.receiverSilenceExpiry l) := fun _ _ _ e => nomatch e
theorem measuredClassChange (p : Port) (input : Nat) (measured : LineClass) : Statement (.measuredClassChange p input measured) :=
    fun _ _ _ e => nomatch e
theorem debounceExpiry (p : Port) (input : Nat) : Statement (.debounceExpiry p input) := fun _ _ _ e => nomatch e
theorem pointEvent (p : Port) (point : Nat) (c : PanelCondition) : Statement (.pointEvent p point c) :=
    fun _ _ _ e => nomatch e
theorem panelRecordDiscarded (p : Port) : Statement (.panelRecordDiscarded p) := fun _ _ _ e => nomatch e
theorem pollTimerExpiry (p : Port) : Statement (.pollTimerExpiry p) := fun _ _ _ e => nomatch e
theorem pollAnswer (p : Port) : Statement (.pollAnswer p) := fun _ _ _ e => nomatch e
theorem answerTimerExpiry (p : Port) : Statement (.answerTimerExpiry p) := fun _ _ _ e => nomatch e
theorem listRecord (p : Port) (point : Nat) (c : ListCondition) : Statement (.listRecord p point c) :=
    fun _ _ _ e => nomatch e
theorem listEnd (p : Port) : Statement (.listEnd p) := fun _ _ _ e => nomatch e
theorem resyncTimerExpiry (p : Port) : Statement (.resyncTimerExpiry p) := fun _ _ _ e => nomatch e
theorem resetDone (p : Port) : Statement (.resetDone p) := fun _ _ _ e => nomatch e
theorem resetTimerExpiry (p : Port) : Statement (.resetTimerExpiry p) := fun _ _ _ e => nomatch e
theorem holdTimerExpiry (floor : Nat) : Statement (.holdTimerExpiry floor) := fun _ _ _ e => nomatch e
theorem drainTimerExpiry : Statement .drainTimerExpiry := fun _ _ _ e => nomatch e
theorem carPoll : Statement .carPoll := fun _ _ _ e => nomatch e
theorem carStatusRecord (car : Nat) (record : CarStatus) : Statement (.carStatusRecord car record) :=
    fun _ _ _ e => nomatch e
theorem carSilenceExpiry (car : Nat) : Statement (.carSilenceExpiry car) := fun _ _ _ e => nomatch e
theorem travelTimerExpiry (car : Nat) : Statement (.travelTimerExpiry car) := fun _ _ _ e => nomatch e
theorem parkConfirmExpiry (car : Nat) : Statement (.parkConfirmExpiry car) := fun _ _ _ e => nomatch e
theorem doorLoopPoll : Statement .doorLoopPoll := fun _ _ _ e => nomatch e
theorem nodeAnswer (floor : Nat) (unlocked : NodeFeedback) : Statement (.nodeAnswer floor unlocked) :=
    fun _ _ _ e => nomatch e
theorem nodeSilenceExpiry (floor : Nat) : Statement (.nodeSilenceExpiry floor) := fun _ _ _ e => nomatch e
theorem supplyUnitAnswer (sec : Nat) (ok : Bool) : Statement (.supplyUnitAnswer sec ok) := fun _ _ _ e => nomatch e
theorem supplySilenceExpiry (sec : Nat) : Statement (.supplySilenceExpiry sec) := fun _ _ _ e => nomatch e
theorem releaseVerifyExpiry (floor : Nat) (stair : Stair) : Statement (.releaseVerifyExpiry floor stair) :=
    fun _ _ _ e => nomatch e
theorem lockVerifyExpiry (floor : Nat) (stair : Stair) : Statement (.lockVerifyExpiry floor stair) :=
    fun _ _ _ e => nomatch e
theorem relockHoldExpiry : Statement .relockHoldExpiry := fun _ _ _ e => nomatch e
theorem phraseEnd (engine : Nat) : Statement (.phraseEnd engine) := fun _ _ _ e => nomatch e
theorem gapTimerExpiry (number : Nat) : Statement (.gapTimerExpiry number) := fun _ _ _ e => nomatch e
theorem tenantExpiry (number : Nat) : Statement (.tenantExpiry number) := fun _ _ _ e => nomatch e
theorem zoneLineFault (floor : Nat) : Statement (.zoneLineFault floor) := fun _ _ _ e => nomatch e
theorem zoneLineRestored (floor : Nat) : Statement (.zoneLineRestored floor) := fun _ _ _ e => nomatch e
theorem byteTaken (l : Link) (byte : Byte) (w : StoreWrite) : Statement (.byteTaken l byte w) :=
    fun _ _ _ e => nomatch e

end Sys2Proof.Laws.RequestForm
end

