-- ==== Sys2Proof/Tests/Slice0.lean ====
section
/-! SUPPORT. Tests of the model: ill-formed operands refused, the spec's worked examples, and for each statement with
hypotheses a theorem `witness_<statement>` that meets them, clause by clause, at boundary values. -/

namespace Sys2Proof.Tests

open Sys2Proof Sys2Proof.Machine

-- One theorem is checked after another, so that the waiting ones hold no thread (and its stack) each.
set_option Elab.async false

/-! ## Checks that settle the invariants of a concrete state -/

/-- What holds of every row holds of every record that can be read. -/
theorem get_all {α : Type} {t : Table α} {P : Nat → α → Prop} (h : ∀ r ∈ t.rows, P r.1 r.2) :
    ∀ k v, t.get k = some v → P k v := fun k v e => h (k, v) (Table.findRow_mem k v t.rows e)

theorem read_all {α : Type} {t : Table α} {d : α} {P : Nat → α → Prop} (h : ∀ r ∈ t.rows, P r.1 r.2)
    (hd : ∀ k, P k d) : ∀ k, P k (t.read d k) := by
  intro k
  unfold Table.read
  cases e : t.get k with
  | none => exact hd k
  | some v => exact get_all h k v e

theorem get_isSome {α : Type} (t : Table α) (k : Nat) : (t.get k).isSome = true ↔ k ∈ t.keys := by
  obtain ⟨l⟩ := t
  show (Table.findRow k l).isSome = true ↔ k ∈ l.map (·.1)
  induction l with
  | nil => simp [Table.findRow]
  | cons x rest ih =>
    obtain ⟨j, v⟩ := x
    rw [Table.findRow_cons]
    split
    · rename_i e
      simp [e]
    · rename_i e
      rw [ih]
      simp only [List.map_cons, List.mem_cons]
      exact ⟨Or.inr, fun h => h.resolve_left fun e' => e e'.symm⟩

theorem sameKeys {α β : Type} {t : Table α} {u : Table β} (h : t.keys = u.keys) (k : Nat) :
    (t.get k).isSome = (u.get k).isSome := by
  have e : (t.get k).isSome = true ↔ (u.get k).isSome = true := by rw [get_isSome, get_isSome, h]
  cases ht : (t.get k).isSome <;> cases hu : (u.get k).isSome <;> simp_all

def carCheck (c : CarLive) : Bool :=
  (c.run.isSome == (c.state == .recalling)) && (match c.run with | some r => r.passes ≤ r.budget | none => true)
    && (c.cause.isSome == (c.state == .faulted)) && (c.parked.isSome == (c.state == .parked || c.state == .shutdown))
    && (!c.awaiting || (c.state == .faulted && c.cause == some .link))

theorem carCheck_sound (c : CarLive) (h : carCheck c = true) : c.sound := by
  obtain ⟨st, ca, aw, po, re, mo, dr, md, oor, pa, run, si, ha⟩ := c
  simp only [carCheck, Bool.and_eq_true, beq_iff_eq] at h
  obtain ⟨⟨⟨⟨h1, h2⟩, h3⟩, h4⟩, h5⟩ := h
  refine ⟨?_, ?_, ?_, ?_, ?_⟩
  · show run.isSome = true ↔ st = .recalling
    rw [h1]; simp
  · intro r hr
    subst hr
    simpa using h2
  · show ca.isSome = true ↔ st = .faulted
    rw [h3]; simp
  · show pa.isSome = true ↔ st = .parked ∨ st = .shutdown
    rw [h4]; simp
  · intro haw
    subst haw
    simpa using h5

def carsCheck (s : State) : Bool :=
  (s.desc.building.cars.rows.all fun r => (s.desc.building.banks.get (bankNumber r.2.bank)).isSome)
    && (s.store.building.cars.rows.all fun r => (s.store.building.banks.get (bankNumber r.2.bank)).isSome)
    && s.lifts.cars.keys == s.desc.building.cars.keys && s.lifts.cars.rows.all fun r => carCheck r.2

theorem carsCheck_sound (s : State) (h : carsCheck s = true) : s.carsSound := by
  simp only [carsCheck, Bool.and_eq_true, beq_iff_eq, List.all_eq_true] at h
  obtain ⟨⟨⟨h1, h2⟩, h3⟩, h4⟩ := h
  exact ⟨get_all h1, get_all h2, sameKeys h3, get_all fun r hr => carCheck_sound r.2 (h4 r hr)⟩

def doorCheck (d : DoorLive) : Bool :=
  (d.cls.isSome == (d.state != .locked)) && (match d.cls with | some c => c ≤ 4 | none => true)
    && (d.demanded.isSome == (d.state != .locked)) && (d.granted.isSome == d.state.granted)
    && (d.override != .holdLocked || d.state == .locked) && (d.override != .forceReleased || d.state != .locked)

theorem doorCheck_sound (d : DoorLive) (h : doorCheck d = true) : d.sound := by
  obtain ⟨st, ov, cls, de, gr, re, fe, ve⟩ := d
  simp only [doorCheck, Bool.and_eq_true, beq_iff_eq] at h
  obtain ⟨⟨⟨⟨⟨h1, h2⟩, h3⟩, h4⟩, h5⟩, h6⟩ := h
  refine ⟨?_, ?_, ?_, ?_, ?_, ?_⟩
  · show cls.isSome = true ↔ st ≠ .locked
    rw [h1]; simp
  · intro c hc
    cases hc
    simpa using h2
  · show de.isSome = true ↔ st ≠ .locked
    rw [h3]; simp
  · show gr.isSome = true ↔ st = .releasing ∨ st = .released
    rw [h4]; cases st <;> simp [DoorState.granted]
  · intro e
    cases e
    simpa using h5
  · intro e
    cases e
    simpa using h6

def sectionCheck (s : State) (k : Nat) (x : SectionLive) : Bool :=
  distinct x.grants && distinct x.waiting && x.grants.length ≤ s.effectiveCapacity k x
    && (x.grants.all fun n => s.doorSection n == k && (match s.doors.doors.get n with
      | some d => d.state.granted | none => false))
    && (x.waiting.all fun n => s.doorSection n == k && (match s.doors.doors.get n with
      | some d => d.state == .waiting | none => false))
    && s.doors.doors.rows.all fun r => s.doorSection r.1 != k
      || ((!r.2.state.granted || x.grants.contains r.1) && (r.2.state != .waiting || x.waiting.contains r.1))

theorem distinct_nodup : ∀ l : List Nat, distinct l = true → l.Nodup
  | [], _ => List.nodup_nil
  | n :: rest, h => by
    simp only [distinct, Bool.and_eq_true, Bool.not_eq_true', List.contains_eq_mem, decide_eq_false_iff_not] at h
    exact List.nodup_cons.2 ⟨h.1, distinct_nodup rest h.2⟩

theorem sectionCheck_sound (s : State) (k : Nat) (x : SectionLive) (h : sectionCheck s k x = true) :
    s.sectionSound k x := by
  simp only [sectionCheck, Bool.and_eq_true, List.all_eq_true, decide_eq_true_eq] at h
  obtain ⟨⟨⟨⟨⟨h1, h2⟩, h3⟩, h4⟩, h5⟩, h6⟩ := h
  refine ⟨distinct_nodup _ h1, distinct_nodup _ h2, h3, fun n => ⟨fun hn => ?_, fun hn => ?_⟩,
    fun n => ⟨fun hn => ?_, fun hn => ?_⟩⟩
  · obtain ⟨a, b⟩ := h4 n hn
    refine ⟨by simpa using a, ?_⟩
    cases e : s.doors.doors.get n with
    | none => simp [e] at b
    | some d =>
      rw [e] at b
      refine ⟨d, rfl, ?_⟩
      cases hd : d.state <;> simp [hd, DoorState.granted] at b ⊢
  · obtain ⟨a, d, e, b⟩ := hn
    have hm := h6 (n, d) (Table.findRow_mem n d _ e)
    rcases b with b | b <;> simp [a, b, DoorState.granted] at hm <;> exact hm
  · obtain ⟨a, b⟩ := h5 n hn
    refine ⟨by simpa using a, ?_⟩
    cases e : s.doors.doors.get n with
    | none => simp [e] at b
    | some d =>
      rw [e] at b
      exact ⟨d, rfl, by simpa using b⟩
  · obtain ⟨a, d, e, b⟩ := hn
    have hm := h6 (n, d) (Table.findRow_mem n d _ e)
    simp [a, b, DoorState.granted] at hm
    exact hm

def doorsCheck (s : State) : Bool :=
  (s.desc.building.doors.rows.all fun r => (s.desc.building.sections.get r.2.sec).isSome)
    && (s.store.building.doors.rows.all fun r => (s.store.building.sections.get r.2.sec).isSome)
    && s.doors.doors.keys == s.desc.building.doors.keys && s.doors.sections.keys == s.desc.building.sections.keys
    && (s.doors.doors.rows.all fun r => doorCheck r.2) && (s.doors.sections.rows.all fun r => sectionCheck s r.1 r.2)
    && (s.doors.nodes.keys.all fun f => !(s.doorsOfFloor f).isEmpty)
    && s.desc.building.doors.keys.all fun n => s.doors.nodes.keys.contains (doorFloor n)

theorem doorFloor_number (f : Nat) (x : Stair) : doorFloor (doorNumber f x) = f := by
  cases x <;> simp [doorFloor, doorNumber, stairNumber] <;> omega

theorem doorsCheck_sound (s : State) (h : doorsCheck s = true) : s.doorsSound := by
  simp only [doorsCheck, Bool.and_eq_true, beq_iff_eq, List.all_eq_true] at h
  obtain ⟨⟨⟨⟨⟨⟨⟨h1, h2⟩, h3⟩, h4⟩, h5⟩, h6⟩, h7⟩, h8⟩ := h
  refine ⟨get_all h1, get_all h2, sameKeys h3, sameKeys h4, fun f => ?_, get_all fun r hr => doorCheck_sound r.2 (h5 r hr),
    get_all fun r hr => sectionCheck_sound s r.1 r.2 (h6 r hr)⟩
  rw [get_isSome]
  refine ⟨fun hf e => by simpa [e] using h7 f hf, fun hf => ?_⟩
  obtain ⟨n, hn⟩ := List.exists_mem_of_ne_nil _ hf
  obtain ⟨ha, hb⟩ := List.mem_filter.1 hn
  obtain ⟨x, -, rfl⟩ := List.mem_map.1 ha
  have := h8 _ ((get_isSome _ _).1 hb)
  rw [doorFloor_number] at this
  simpa using this

def queueCheck (s : State) : Bool :=
  let q := s.evac.queue.map (·.floor)
  distinct q && (q.all fun f => (s.floor f).phase == .alert)
    && (s.evac.floors.rows.all fun r => (r.2.phase != .alert || q.contains r.1)
      && (s.regime.regime != .normal || r.2.phase == .normal)
      && (s.regime.regime != .standdown || r.2.phase == .normal || r.2.phase == .standdown)
      && (r.1 < s.fc || r.2.phase == .normal))
    && (s.regime.regime == .alarm || s.evac.queue.isEmpty)

theorem queueCheck_sound (s : State) (h : queueCheck s = true) : s.queueSound := by
  simp only [queueCheck, Bool.and_eq_true, List.all_eq_true] at h
  obtain ⟨⟨⟨h1, h2⟩, h3⟩, h4⟩ := h
  refine ⟨distinct_nodup _ h1, fun f => ⟨fun hf => by simpa using h2 f hf, ?_⟩, ?_, ?_, ?_, ?_⟩
  · refine read_all (d := Floor.fresh) (P := fun f (x : Floor) => x.phase = .alert → f ∈ s.evac.queue.map (·.floor)) (fun r hr e => ?_)
      (fun _ (e : Phase.normal = .alert) => by cases e) f
    have := (h3 r hr).1.1.1
    simp [e] at this
    simpa using this
  · intro e
    simpa [e] using h4
  · intro e
    refine read_all (d := Floor.fresh) (P := fun _ (x : Floor) => x.phase = .normal) (fun r hr => ?_) (fun _ => rfl)
    have := (h3 r hr).1.1.2
    simpa [e] using this
  · intro e
    refine read_all (d := Floor.fresh) (P := fun _ (x : Floor) => x.phase = .normal ∨ x.phase = .standdown) (fun r hr => ?_)
      (fun _ => .inl rfl)
    have := (h3 r hr).1.2
    simpa [e] using this
  · intro f
    refine read_all (d := Floor.fresh) (P := fun f (x : Floor) => s.fc ≤ f → x.phase = .normal) (fun r hr hf => ?_) (fun _ _ => rfl) f
    have := (h3 r hr).2
    simpa [Nat.not_lt.2 hf] using this

def audioCheck (s : State) : Bool :=
  s.audio.noticed.isEmpty && s.audio.drillCopy == s.regime.drill && (s.audio.progs.rows.all fun r => 1 ≤ r.1 && r.1 ≤ 32
      && (r.2.engine.isSome == (r.2.state == .playing || r.2.state == .yielding))
      && (match r.2.engine with | some e => 1 ≤ e && e ≤ 4 | none => true)
      && (s.audio.progs.rows.all fun q => r.1 == q.1 || r.2.engine.isNone || r.2.engine != q.2.engine)
      && (r.2.kind != .tenant || (s.audio.tenants.map (·.prog)).contains r.1))
    && (s.audio.floors.rows.all fun r => (match r.2.prog with | some n => (s.audio.progs.get n).isSome | none => true)
      && (match r.2.content with | some c => c.kind != .tenant | none => true))
    && s.audio.tenants.length ≤ 8 && distinct (s.audio.tenants.map (·.prog))
    && (s.audio.tenants.map (·.prog)).all fun n => match s.audio.progs.get n with
      | some p => p.kind == .tenant | none => false

theorem audioCheck_sound (s : State) (h : audioCheck s = true) : s.audioSound := by
  simp only [audioCheck, Bool.and_eq_true, List.all_eq_true, decide_eq_true_eq, List.isEmpty_iff] at h
  obtain ⟨⟨⟨⟨⟨⟨hn, hd⟩, h1⟩, h2⟩, h3⟩, h4⟩, h5⟩ := h
  refine ⟨hn, beq_iff_eq.1 hd, get_all fun r hr => ?_, fun m n p q e hp hq he hf => ?_, fun f n => ?_, fun f c => ?_, h3,
    distinct_nodup _ h4, fun n => ⟨fun hn => ?_, fun ⟨p, hp, hk⟩ => ?_⟩⟩
  · obtain ⟨⟨⟨⟨⟨a, b⟩, c⟩, d⟩, -⟩, -⟩ := h1 r hr
    refine ⟨⟨a, b⟩, ?_, fun e he => ?_⟩
    · rw [beq_iff_eq.1 c]; simp
    · rw [he] at d
      simpa using d
  · have := (h1 _ (Table.findRow_mem m p _ hp)).1.2 _ (Table.findRow_mem n q _ hq)
    simpa [he, hf] using this
  · refine read_all (d := FloorEntry.fresh) (P := fun _ (x : FloorEntry) => x.prog = some n → (s.audio.progs.get n).isSome = true)
      (fun r hr e => ?_) (fun _ (e : none = some n) => by cases e) f
    have := (h2 r hr).1
    rw [e] at this
    exact this
  · refine read_all (d := FloorEntry.fresh) (P := fun _ (x : FloorEntry) => x.content = some c → c.kind ≠ .tenant)
      (fun r hr e => ?_) (fun _ (e : none = some c) => by cases e) f
    have := (h2 r hr).2
    rw [e] at this
    simpa using this
  · have := h5 n hn
    cases e : s.audio.progs.get n with
    | none => simp [e] at this
    | some p =>
      rw [e] at this
      exact ⟨p, rfl, by simpa using this⟩
  · have := (h1 _ (Table.findRow_mem n p _ hp)).2
    simpa [hk] using this

/-! ## Ill-formed operands (WellFormed.lean): one term for each check, each refused -/

/-- A header of station 1 and tag 65. -/
def hd (n : Level) : Header := { station := 1, claimed := n, tag := 65 }

theorem test_wf_header : (Instr.status .host { hd .one with station := 16 } none).wf = false
    ∧ (Instr.status .host { hd .one with tag := 256 } none).wf = false := by decide

/-- A field of one byte at 256, request by request. -/
theorem test_wf_byte : ([.queryFloor .host (hd .three) (some 256), .queryStair .host (hd .three) (some 256),
      .queryDoor .host (hd .three) (some ⟨256, 1⟩), .queryDoor .host (hd .three) (some ⟨1, 256⟩),
      .queryRange .host (hd .three) (some ⟨256, 1⟩), .queryRange .host (hd .three) (some ⟨1, 65536⟩),
      .setOccupancy .host (hd .three) (some ⟨256, 0⟩), .setOccupancy .host (hd .three) (some ⟨0, 65536⟩),
      .adjustOccupancy .host (hd .three) (some ⟨256, 0⟩), .adjustOccupancy .host (hd .three) (some ⟨0, -32769⟩),
      .adjustOccupancy .host (hd .three) (some ⟨0, 32768⟩), .isolateZone .host (hd .two) .written (some 256),
      .stairUse .host (hd .two) .written (some ⟨256, true⟩), .relatch .host (hd .two) (some 256),
      .startDrill .host (hd .two) (some ⟨256, true⟩), .floorCommandAlert .host (hd .one) (some 256),
      .doorCommandHold .host (hd .one) (some ⟨256, 1⟩), .carCommandRecall .host (hd .one) (some 256),
      .cancelAnnounce .host (hd .three) (some 256), .invalidKind .host (hd .one) 256, .invalidKind .host (hd .one) 33,
      .badClaimedLevel .host 16 0 0, .badClaimedLevel .host 0 256 0, .badClaimedLevel .host 0 0 256] :
        List Instr).all (fun i => !i.wf) = true := by decide

/-- A SET_BUILDING whose figures all fit. -/
def goodBuilding : BuildingLoad :=
  { fc := 8, street := 0, coreAbove := none, coreBelow := some 1, threshold := none, holdMax := some 300
    drainInterval := none, relockHold := none, verifyTime := none, recallMargin := none, travelTime := none
    parkConfirm := some 15 }

/-- Values carried as all ones stand for a field left out, so they are no values (Figure 10-6). -/
theorem test_wf_building : goodBuilding.wf = true ∧ ([{ goodBuilding with fc := 65536 },
      { goodBuilding with street := 256 }, { goodBuilding with coreAbove := some 255 },
      { goodBuilding with coreBelow := some 255 }, { goodBuilding with threshold := some 255 },
      { goodBuilding with holdMax := some 65535 }, { goodBuilding with drainInterval := some 255 },
      { goodBuilding with relockHold := some 65535 }, { goodBuilding with verifyTime := some 255 },
      { goodBuilding with recallMargin := some 255 }, { goodBuilding with travelTime := some 255 },
      { goodBuilding with parkConfirm := some 255 }] : List BuildingLoad).all (fun b => !b.wf) = true := by decide

theorem test_wf_records :
    (([⟨256, none⟩, ⟨1, some ⟨true, 65536⟩⟩] : List FloorLoad).all fun b => !b.wf) = true
      ∧ (([⟨256, none⟩, ⟨1, some ⟨256, 0, 0, 0, 0, 0, true⟩⟩, ⟨1, some ⟨0, 256, 0, 0, 0, 0, true⟩⟩,
          ⟨1, some ⟨0, 0, 256, 0, 0, 0, true⟩⟩, ⟨1, some ⟨0, 0, 0, 65536, 0, 0, true⟩⟩,
          ⟨1, some ⟨0, 0, 0, 0, 256, 0, true⟩⟩, ⟨1, some ⟨0, 0, 0, 0, 0, 65536, true⟩⟩] : List StairLoad).all
            fun b => !b.wf) = true
      ∧ (([⟨256, none⟩, ⟨1, some ⟨256, 0, 0, 0⟩⟩, ⟨1, some ⟨0, 256, 0, 0⟩⟩, ⟨1, some ⟨0, 0, 256, 0⟩⟩,
          ⟨1, some ⟨0, 0, 0, 256⟩⟩] : List BankLoad).all fun b => !b.wf) = true
      ∧ (([⟨256, none⟩, ⟨1, some ⟨256, 0⟩⟩, ⟨1, some ⟨0, 256⟩⟩] : List CarLoad).all fun b => !b.wf) = true
      ∧ (([⟨256, none⟩, ⟨1, some 256⟩] : List SectionLoad).all fun b => !b.wf) = true
      ∧ (([⟨256, 1, none⟩, ⟨1, 256, none⟩, ⟨1, 1, some ⟨256, true⟩⟩] : List DoorLoad).all fun b => !b.wf) = true
      ∧ (([⟨65536, none⟩, ⟨1, some 256⟩] : List PhraseLoad).all fun b => !b.wf) = true
      ∧ (([⟨.alert, some []⟩, ⟨.alert, some (List.replicate 17 (some 1))⟩, ⟨.alert, some [some 65535]⟩] :
          List TemplateLoad).all fun b => !b.wf) = true := by decide +kernel

theorem test_wf_input_and_map :
    (([⟨256, .serial, 0, 0, 0, 0⟩, ⟨1, .serial, 256, 0, 0, 0⟩, ⟨1, .serial, 0, 256, 0, 0⟩, ⟨1, .serial, 0, 0, 256, 0⟩,
        ⟨1, .serial, 0, 0, 0, 256⟩] : List PortLoad).all fun b => !b.wf) = true
      ∧ (([⟨256, .undefined⟩, ⟨1, .defined ⟨.stair 256, 0, 1, 0, 0, 1⟩⟩, ⟨1, .defined ⟨.shaft 256, 0, 1, 0, 0, 1⟩⟩,
          ⟨1, .defined ⟨.floor, 256, 1, 0, 0, 1⟩⟩, ⟨1, .defined ⟨.floor, 0, 0, 0, 0, 1⟩⟩,
          ⟨1, .defined ⟨.floor, 0, 9, 0, 0, 1⟩⟩, ⟨1, .defined ⟨.floor, 0, 1, 256, 0, 1⟩⟩,
          ⟨1, .defined ⟨.floor, 0, 1, 0, 65536, 1⟩⟩, ⟨1, .defined ⟨.floor, 0, 1, 0, 0, 256⟩⟩] : List ZoneLoad).all
            fun b => !b.wf) = true
      ∧ (([⟨256, 0, 0, 0⟩, ⟨1, 65536, 0, 0⟩, ⟨1, 0, 65536, 0⟩, ⟨1, 0, 0, 256⟩] : List RangeLoad).all
            fun b => !b.wf) = true := by decide

theorem test_wf_announcement :
    ([⟨List.replicate 256 0, [1], 0, 0, 0⟩, ⟨[256], [1], 0, 0, 0⟩, ⟨[0], [], 0, 0, 0⟩,
      ⟨[0], List.replicate 17 1, 0, 0, 0⟩, ⟨[0], [65536], 0, 0, 0⟩, ⟨[0], [1], 256, 0, 0⟩, ⟨[0], [1], 0, 256, 0⟩,
      ⟨[0], [1], 0, 0, 65536⟩] : List Announcement).all (fun b => !b.wf) = true := by decide +kernel

/-- Events of equipment that does not exist. -/
theorem test_wf_events : ([.measuredClassChange .p1 0 .alarm, .debounceExpiry .p1 33, .pointEvent .p1 65536 .alarm,
      .listRecord .p1 65536 .alarm, .holdTimerExpiry 48, .carStatusRecord 9 ⟨0, .up, .closed, .normal, false⟩,
      .carStatusRecord 1 ⟨256, .up, .closed, .normal, false⟩, .carSilenceExpiry 0, .nodeAnswer 48 ⟨true, true, true, true⟩,
      .supplyUnitAnswer 9 true, .releaseVerifyExpiry 48 .a, .lockVerifyExpiry 48 .a, .phraseEnd 5, .gapTimerExpiry 33,
      .tenantExpiry 0, .zoneLineFault 48, .zoneLineRestored 48] : List Instr).all (fun i => !i.wf) = true := by decide

/-! ## Worked examples of the spec -/

/-- Figure 6-2: the seven cases. -/
theorem test_shares :
    shares 120 [(.a, 2), (.b, 1)] = [(.a, 80), (.b, 40)] ∧ shares 85 [(.a, 2), (.b, 1)] = [(.a, 57), (.b, 28)]
      ∧ shares 10 [(.a, 1), (.b, 3), (.c, 3)] = [(.a, 1), (.b, 5), (.c, 4)]
      ∧ shares 10 [(.a, 1), (.b, 1), (.c, 1)] = [(.a, 4), (.b, 3), (.c, 3)]
      ∧ shares 999 [(.a, 4), (.b, 4), (.c, 4), (.d, 4)] = [(.a, 250), (.b, 250), (.c, 250), (.d, 249)]
      ∧ shares 999 [(.b, 3)] = [(.b, 999)] ∧ shares 0 [(.a, 2), (.b, 1)] = [(.a, 0), (.b, 0)] := by decide

/-- 6.10: the clear times worked there. -/
theorem test_clearTime : clearTime 380 18 10 = 220 ∧ clearTime 140 12 10 = 120 ∧ clearTime 4095 20 10 = 2050
    ∧ clearTime 4095 1 60 = 65535 ∧ clearTime 4095 255 5 = 85 ∧ clearTime 0 18 10 = 0 := by decide

/-- R160: the order of times across the wrap of the seconds count, and of times 2^31 apart. -/
theorem test_later : later 5 0xFFFFFFFB = true ∧ later 0xFFFFFFFB 5 = false ∧ later 7 7 = false
    ∧ later 0x80000000 0 = true ∧ later 0 0x80000000 = false ∧ addSeconds 0xFFFFFFFF 2 = 1 := by decide

/-- R166: the kind codes it gives; R166 also gives the report codes of three ALARM reports. -/
theorem test_codes : Instr.kind (.status .host (hd .one) none) = some 1
    ∧ Instr.kind (.setBuilding .host (hd .one) .written none) = some 7
    ∧ Instr.kind (.relatch .host (hd .one) none) = some 23
    ∧ Instr.kind (.cancelAnnounce .host (hd .one) none) = some 33
    ∧ (Report.notActed .p1 1).code = 1 ∧ (Report.isolatedAlarm 1 .p1 1).code = 2
    ∧ (Report.unlocated .p1 1 .limit).code = 3 := by decide

/-- R156: the CRC of that polynomial and start, over the nine digits 1 to 9, is 29B1 (the check value published for it). -/
theorem test_crc : crc [0x31#8, 0x32#8, 0x33#8, 0x34#8, 0x35#8, 0x36#8, 0x37#8, 0x38#8, 0x39#8] = 0x29B1#16 := by decide +kernel

/-- Figure 10-7: station 2, claimed level 3, tag 65, ADJUST_OCCUPANCY of floor 19 by −45. -/
theorem test_frame_read : parseRequest .host .written [0x23#8, 65#8, 6#8, 19#8, 0xFF#8, 0xD3#8]
    = some (.adjustOccupancy .host ⟨2, .three, 65⟩ (some ⟨19, -45⟩)) := by decide

/-- R158: a claimed level of 0 comes before an unknown kind. -/
theorem test_level_before_kind : parseRequest .host .written [0x20#8, 65#8, 99#8]
    = some (.badClaimedLevel .host 2 65 99) := by decide

/-- R14: a cold start whose three group checks fail, over a blank store, is the machine right after reset. -/
theorem test_reset_is_cold_start : exec (.coldStart true false false false) State.reset = .next State.reset :=
  congrArg Host.Outcome.next (by decide +kernel)

/-! The tower of Sections 3, 5 and 7 (5.12, Figures 3-2 and 3-3, 7.11), just before 503 seconds. -/

def towerZones : Table Zone :=
  ⟨[(12, ⟨some ⟨.floor, 12, 4, 20, 79⟩, 3, false, 4⟩), (13, ⟨some ⟨.manual, 22, 4, 0, 15⟩, 3, false, 0⟩),
    (14, ⟨some ⟨.stair .a, 0, 8, 0, 7⟩, 3, false, 0⟩), (15, ⟨some ⟨.floor, 20, 2, 10, 50⟩, 3, false, 0⟩)]⟩

def towerRanges : List Range :=
  [⟨.p1, 101, 100, 12⟩, ⟨.p1, 201, 16, 13⟩, ⟨.p1, 301, 51, 15⟩, ⟨.p1, 401, 10, 0⟩, ⟨.p1, 501, 5, 16⟩, ⟨.p2, 1, 8, 14⟩]

def towerBuilding : BuildingGroup :=
  { building := some
      { fc := 24, street := 0, coreAbove := 1, coreBelow := 1, threshold := 3, holdMax := 120, drainInterval := 10
        relockHold := 120, verifyTime := 3, recallMargin := 3, travelTime := 8, parkConfirm := 15 }
    floors := .empty
    stairs := ⟨[(1, ⟨1, 23, 2, 200, 18, 30, true⟩), (2, ⟨1, 23, 1, 150, 12, 31, true⟩)]⟩
    banks := ⟨[(1, ⟨0, 2, 0, 23⟩)]⟩, cars := ⟨[(3, ⟨.one, 0⟩)]⟩, sections := .empty, doors := .empty
    phrases := ⟨[(30, 15), (31, 15)]⟩, templates := .empty }

def tower : State :=
  { State.reset with
    clock := 5030
    desc := { State.reset.desc with
              building := towerBuilding, map := ⟨towerZones, towerRanges⟩
              input := ⟨⟨[(1, ⟨.serial, some (10, 19), 10, 5⟩), (2, ⟨.contact, some (0, 7), 10, 5⟩)]⟩⟩ }
    evac := { floors := ⟨(List.range 23).map fun f => (f + 1, { Floor.fresh with occupancy := 60 })⟩, queue := [] } }

/-- The floors a translation gives, or why it gives none. -/
def floorsOf (p : Port) (n : Nat) : Option Unlocated × List Nat :=
  match tower.translate p n with
  | .isolated z => (none, [z])
  | .located r => (none, [r.zone, r.first, r.count])
  | .unlocated why r => (some why, [r.zone, r.first, r.count])

/-- Figure 3-4: the eleven translations. -/
theorem test_translations :
    [floorsOf .p1 101, floorsOf .p1 145, floorsOf .p1 180, floorsOf .p1 311, floorsOf .p2 3]
        = [(none, [12, 12, 1]), (none, [12, 14, 1]), (none, [12, 15, 1]), (none, [15, 21, 1]), (none, [14, 0, 8])]
      ∧ [floorsOf .p1 190, floorsOf .p1 50, floorsOf .p1 205, floorsOf .p1 326, floorsOf .p1 404, floorsOf .p1 503]
        = [(some .limit, [0, 10, 10]), (some .noRange, [0, 10, 10]), (some .span, [0, 10, 10]),
          (some .span, [0, 10, 10]), (some .nullZone, [0, 10, 10]), (some .undefined, [0, 10, 10])] := by
  decide +kernel

/-- Figure 5-1, 503 s: the core of floor 14, the floors alerted in order, the chain of head tests, and the loads. -/
theorem test_core_processing :
    let t := tower.coreProcess 14 1 .normal
    t.evac.queue.map (·.floor) = [18, 19, 20, 21, 22, 23, 12, 11, 10, 9, 8, 7, 6, 5, 4, 3, 2, 1, 0]
      ∧ (t.stairs.stair .a).load = 200 ∧ (t.stairs.stair .b).load = 100
      ∧ (t.evac.queue.map (·.deadline)).all (· == 623) = true := by decide +kernel

/-- Figure 7-2: the run of car 3 from floor 17, with budget 20 and its travel timer to 663 s. -/
theorem test_run : (newRun tower 17 0).budget = 20 ∧ (newRun tower 17 0).travelTimer = some 6630
    ∧ (newRun { tower with clock := 5310 } 4 2).travelTimer = some 5710 := by decide

/-- What holds of the next state, where the outcome is one. -/
def next (o : Host.Outcome State Fault Refusal) (p : State → Bool) : Bool :=
  match o with
  | .next t => p t
  | .fault _ => false
  | .refused _ => false

/-- Contact input 7 of P1, held NORMAL, with a candidate, at 0.9 s. -/
def debouncing (c : Candidate) : State :=
  { State.reset with
    clock := 9
    panel := { State.reset.panel with
               ports := ⟨[(1, { PortLive.contact with inputs := ⟨[(7, ⟨.normal, some c⟩)]⟩ })]⟩ } }

/-- Figure 2-2, its events at 9 and 19: the candidate's timer, and the point after the debounce expiry. -/
theorem test_debounce :
    next (exec (.measuredClassChange .p1 7 .shorted) (debouncing ⟨.alarm, 0, 16⟩))
        (fun t => ((t.port .p1).input 7).candidate = some ⟨.shorted, 0, 19⟩) = true
      ∧ next (exec (.debounceExpiry .p1 7) (debouncing ⟨.shorted, 0, 19⟩))
        (fun t => (t.point .p1 7).condition = .alarm && (t.point .p1 7).short) = true := by decide +kernel

/-- Six doors of floors 12 to 14 into stairs A and B on section 3 of four slots, as at 500 in Figure 8-2. -/
def sectionTower : State :=
  { tower with
    desc := { tower.desc with building := { towerBuilding with
      sections := ⟨[(3, 4)]⟩
      doors := ⟨[(48, ⟨3, false⟩), (49, ⟨3, true⟩), (52, ⟨3, false⟩), (53, ⟨3, false⟩), (56, ⟨3, false⟩),
        (57, ⟨3, false⟩)]⟩ } }
    doors := { State.reset.doors with
      doors := ⟨[48, 49, 52, 53, 56, 57].map fun n => (n, { DoorLive.fresh with feedback := .locked })⟩
      sections := ⟨[(3, ⟨true, true, [], [], some 5050⟩)]⟩ } }

/-- Figure 8-2, 500 s: who is granted, who waits. -/
theorem test_arbiter : ((beginGeneralDemand sectionTower ⟨sectionTower.doors, [], []⟩).unit.sections.get 3).map
    (fun x => (x.grants, x.waiting)) = some ([49, 48, 52, 53], [56, 57]) := by decide +kernel

/-! ## The states of the witnesses -/

def regimeCheck (r : RegimeUnit) : Bool :=
  decide (r.incidents.length ≤ 16)
    && decide (r.regime = .normal ∨ r.regime = .standdown → r.incidents = [])
    && decide (r.regime = .alarm → r.incidents ≠ [])
    && decide (r.incidents.map (·.number)).Nodup
    && decide (∀ i ∈ r.incidents, 1 ≤ i.number ∧ i.number ≤ 255) && decide (1 ≤ r.nextNumber ∧ r.nextNumber ≤ 255)
    && decide (r.incidents.map fun i => (i.zone, i.first)).Nodup
    && decide (r.drill = true → r.regime = .alarm ∨ r.regime = .general)
    && decide (∀ i ∈ r.incidents, i.drill = r.drill)
    && decide (r.liftsIncluded = true → r.drill = true)

theorem regimeCheck_sound (r : RegimeUnit) (h : regimeCheck r = true) : r.sound := by
  simp only [regimeCheck, Bool.and_eq_true, decide_eq_true_eq] at h
  obtain ⟨⟨⟨⟨⟨⟨⟨⟨⟨a, b⟩, c⟩, d⟩, e⟩, f⟩, g⟩, i⟩, j⟩, k⟩ := h
  exact ⟨a, b, c, d, e, f, g, i, j, k⟩

def rangesCheck (l : List Range) : Bool :=
  decide (l.length ≤ 256) && decide (l.Pairwise fun r t => pointKey r.port r.first < pointKey t.port t.first)
    && decide (l.Pairwise fun r t => r.overlaps t = false)
    && decide (∀ r ∈ l, 1 ≤ r.first ∧ 1 ≤ r.count ∧ r.first + r.count - 1 ≤ 1023 ∧ r.zone ≤ 127)

theorem rangesCheck_sound (l : List Range) (h : rangesCheck l = true) : rangesSound l := by
  simp only [rangesCheck, Bool.and_eq_true, decide_eq_true_eq] at h
  obtain ⟨⟨⟨a, b⟩, c⟩, d⟩ := h
  exact ⟨a, b, c, d⟩

def groupsCheck (b : BuildingGroup) (i : InputGroup) (m : MapGroup) : Bool :=
  b.floors.wf && b.stairs.wf && b.banks.wf && b.cars.wf && b.sections.wf && b.doors.wf && b.phrases.wf
    && b.templates.wf && i.ports.wfDefault PortRec.default && m.zones.wfDefault Zone.undefined

def canonicalCheck (s : State) : Bool :=
  groupsCheck s.desc.building s.desc.input s.desc.map && groupsCheck s.store.building s.store.input s.store.map
    && s.panel.ports.wfDefault PortLive.contact && s.panel.points.wfDefault PointRec.fresh
    && (s.panel.ports.rows.all fun r => r.2.inputs.wfDefault Input.fresh)
    && s.evac.floors.wfDefault Floor.fresh && s.stairs.live.wfDefault StairLive.fresh
    && s.lifts.banks.wfDefault BankLive.fresh && s.lifts.cars.wf
    && s.doors.doors.wf && s.doors.sections.wf && s.doors.nodes.wf
    && s.audio.progs.wf && s.audio.floors.wfDefault FloorEntry.fresh

theorem canonicalCheck_sound (s : State) (h : canonicalCheck s = true) : s.canonical := by
  simp only [canonicalCheck, groupsCheck, Bool.and_eq_true, List.all_eq_true] at h
  simp only [State.canonical, BuildingGroup.canonical, InputGroup.canonical, MapGroup.canonical, and_assoc] at h ⊢
  exact h

/-- Every invariant the statements take as a premise. -/
def allSound (s : State) : Prop :=
  s.canonical ∧ s.regime.sound ∧ s.queueSound ∧ s.carsSound ∧ s.doorsSound ∧ s.audioSound
    ∧ s.pointsSound ∧ rangesSound s.desc.map.ranges

def pointsCheck (s : State) : Bool :=
  s.panel.points.keys.all fun k => isPoint (keyPoint k) && k == pointKey (keyPort k) (keyPoint k)

theorem pointsCheck_sound (s : State) (h : pointsCheck s = true) : s.pointsSound := fun k r e => by
  have := List.all_eq_true.1 h k ((get_isSome _ _).1 (by rw [e]; rfl))
  simp [isPoint] at this
  exact ⟨_, _, this.1.1, this.1.2, this.2⟩

def allCheck (s : State) : Bool :=
  canonicalCheck s && regimeCheck s.regime && queueCheck s && carsCheck s && doorsCheck s && audioCheck s
    && pointsCheck s && rangesCheck s.desc.map.ranges

theorem allCheck_sound (s : State) (h : allCheck s = true) : allSound s := by
  simp only [allCheck, Bool.and_eq_true] at h
  obtain ⟨⟨⟨⟨⟨⟨⟨a, b⟩, c⟩, d⟩, e⟩, f⟩, i⟩, g⟩ := h
  exact ⟨canonicalCheck_sound s a, regimeCheck_sound _ b, queueCheck_sound s c, carsCheck_sound s d,
    doorsCheck_sound s e, audioCheck_sound s f, pointsCheck_sound s i, rangesCheck_sound _ g⟩

/-- A building of 8 floors. Floor 2 has a direct exit; stair B is out of use; stair D has no door; section 4 no door; bank 2
no car. -/
def siteBuilding : BuildingGroup :=
  { building := some
      { fc := 8, street := 0, coreAbove := 1, coreBelow := 1, threshold := 3, holdMax := 120, drainInterval := 10
        relockHold := 120, verifyTime := 3, recallMargin := 3, travelTime := 8, parkConfirm := 15 }
    floors := ⟨[(2, ⟨true, 20⟩), (4, ⟨false, 40⟩)]⟩
    stairs := ⟨[(1, ⟨0, 7, 2, 100, 10, 30, true⟩), (2, ⟨1, 6, 1, 60, 12, 31, false⟩),
      (4, ⟨0, 7, 1, 60, 12, 31, true⟩)]⟩
    banks := ⟨[(1, ⟨0, 2, 0, 7⟩), (2, ⟨1, 3, 0, 7⟩)]⟩
    cars := ⟨[(3, ⟨.one, 0⟩), (4, ⟨.one, 1⟩), (5, ⟨.one, 2⟩)]⟩
    sections := ⟨[(3, 2), (4, 1)]⟩
    doors := ⟨[(12, ⟨3, false⟩), (13, ⟨3, true⟩), (16, ⟨3, false⟩)]⟩
    phrases := ⟨[(30, 15), (31, 15), (511, 200)]⟩
    templates := ⟨[(1, [some 30, none])]⟩ }

/-- Zone 13 is isolated, zone 15 too narrow for its range, zone 16 not loaded. -/
def siteMap : MapGroup :=
  { zones := ⟨[(12, ⟨some ⟨.floor, 2, 4, 20, 79⟩, 3, false, 4⟩), (13, ⟨some ⟨.manual, 3, 1, 0, 15⟩, 2, true, 0⟩),
      (14, ⟨some ⟨.stair .a, 0, 8, 0, 7⟩, 1, false, 0⟩), (15, ⟨some ⟨.floor, 6, 1, 10, 50⟩, 3, false, 0⟩)]⟩
    ranges := [⟨.p1, 101, 100, 12⟩, ⟨.p1, 201, 16, 13⟩, ⟨.p1, 301, 51, 15⟩, ⟨.p1, 401, 10, 0⟩, ⟨.p1, 501, 5, 16⟩,
      ⟨.p2, 1, 8, 14⟩] }

def serialPort : PortLive := { PortLive.contact with pollTimer := some 1020 }

def quietCar : CarLive :=
  { state := .auto, cause := none, awaiting := false, position := some 5, reported := some 5, motion := some .stopped
    doors := some .closed, mode := some .normal, outOfRange := false, parked := none, run := none
    silence := some 1040, holdAgain := false }

def forcedDoor : DoorLive :=
  { state := .released, override := .forceReleased, cls := some 0, demanded := some 80, granted := some 80
    retryUsed := false, feedback := .unlocked, verify := none }

def lockedDoor : DoorLive :=
  { state := .locked, override := .none, cls := none, demanded := none, granted := none, retryUsed := false
    feedback := .locked, verify := none }

/-- A tenant program playing on engine 2. -/
def tenantProg : Prog :=
  { kind := .tenant, phrases := [30, 31], times := 3, remaining := some 3, index := 0, gap := 10, state := .playing
    engine := some 2, started := true, expiring := false, created := 90, start := some 90
    phraseTimer := some 1010, gapTimer := none }

def tenantOf1 : TenantEntry :=
  { prog := 1, station := 1, floors := [5], phrases := [30, 31], times := 3, gap := 10, expiry := some 60
    timer := some 1500 }

/-- The site in NORMAL, at 100 seconds: P1 supervised, point 205 in ALARM in the isolated zone, two doors forced, car 4 silent
since the start, car 5 with a firefighter, a tenant program playing on floor 5. -/
def site : State :=
  { State.reset with
    clock := 1000
    desc := { State.reset.desc with
              building := siteBuilding, map := siteMap, input := ⟨⟨[(1, ⟨.serial, some (0, 7), 10, 5⟩)]⟩⟩ }
    panel := { ports := ⟨[(1, serialPort)]⟩, points := ⟨[(205, ⟨.alarm, false, 0, 90⟩)]⟩ }
    stairs := { live := ⟨[(1, ⟨50, false, false⟩)]⟩, drainTimer := some 1050 }
    lifts :=
      { banks := .empty
        cars := ⟨[(3, quietCar), (4, { quietCar with state := .faulted, cause := some .link, awaiting := true
                                                     position := none, silence := none }),
          (5, { quietCar with state := .firefighter, mode := some .fireKey })]⟩
        pollTimer := 1003 }
    doors :=
      { doors := ⟨[(12, lockedDoor), (13, forcedDoor), (16, forcedDoor)]⟩
        sections := ⟨[(3, ⟨true, true, [13, 16], [], some 1040⟩), (4, ⟨false, false, [], [], none⟩)]⟩
        nodes := ⟨[(3, ⟨some 1040, false⟩), (4, ⟨none, true⟩)]⟩
        general := false, relockTimer := none, pollTimer := 1005 }
    audio := { AudioUnit.fresh with
               progs := ⟨[(1, tenantProg)]⟩
               floors := ⟨[(5, { FloorEntry.fresh with prog := some 1, connected := true })]⟩
               tenants := [tenantOf1] } }

theorem site_sound : allSound site := allCheck_sound _ (by decide +kernel)

/-- The incident of zone 12 on floor 3, from point 125 of P1, latched before the zone's last load. -/
def incident1 : Incident :=
  { number := 1, zone := 12, kind := .floor, latched := some ⟨.floor, 2, 4, 20, 3⟩, first := 3, count := 1
    origin := some (.p1, 105), opened := 95, points := 1, clear := false, stale := true, drill := false }

def sentFloor (l : List Stair) : Floor :=
  { phase := .evacuate, core := true, route := .stairs l, shares := [], occupancy := 40, phaseTime := 95 }

/-- A car on its way from floor 5 to floor 0. -/
def recalledCar : CarLive :=
  { quietCar with state := .recalling, motion := some .down, run := some ⟨0, 8, 2, some 1590, none, 0, 95⟩ }

/-- The site in ALARM: floor 3 on fire, floor 4 on stair A alone, floor 5 defended, floors 1 and 6 queued; car 3 on its way to
floor 0, car 5 parked there, car 4 faulted; one door released, one releasing, one waiting; no program. -/
def fire : State :=
  { site with
    panel := { site.panel with points := ⟨[(105, ⟨.alarm, false, 1, 95⟩), (205, ⟨.alarm, false, 0, 90⟩)]⟩ }
    regime := { RegimeUnit.fresh with regime := .alarm, incidents := [incident1], nextNumber := 2 }
    evac :=
      { floors := ⟨[(0, { sentFloor [.a] with core := false }), (1, { Floor.fresh with phase := .alert, occupancy := 100 }),
          (2, { sentFloor [] with route := .direct }), (3, sentFloor [.a, .d]), (4, sentFloor [.a]),
          (5, { Floor.fresh with phase := .defend }), (6, { Floor.fresh with phase := .alert }),
          (7, { sentFloor [.d] with core := false })]⟩
        queue := [⟨1, 95, 215, 2150⟩, ⟨6, 95, 215, 2150⟩] }
    lifts := { site.lifts with
               cars := ⟨[(3, recalledCar),
                 (4, { quietCar with state := .faulted, cause := some .controller, position := some 7 }),
                 (5, { quietCar with state := .parked, position := some 0, parked := some 0 })]⟩ }
    doors := { site.doors with
               doors := ⟨[(12, { forcedDoor with state := .waiting, override := .none, cls := some 4, granted := none
                                                 feedback := .locked }),
                 (13, { forcedDoor with override := .none, cls := some 1 }),
                 (16, { forcedDoor with state := .releasing, override := .none, cls := some 3, feedback := .locked
                                        verify := some (.release, 1020) })]⟩
               sections := ⟨[(3, ⟨true, true, [13, 16], [12], some 1040⟩), (4, ⟨false, false, [], [], none⟩)]⟩
               general := true }
    audio := .fresh }

theorem fire_sound : allSound fire := allCheck_sound _ (by decide +kernel)

/-- The alarm is over and the incident with it is still open. -/
def burntOut : State := { fire with panel := { fire.panel with points := .empty } }

theorem burntOut_sound : allSound burntOut := allCheck_sound _ (by decide +kernel)

/-- A drill on floor 3, with the lifts. -/
def drilling : State :=
  { fire with
    panel := site.panel
    audio := { AudioUnit.fresh with drillCopy := true }
    regime := { fire.regime with
                drill := true, liftsIncluded := true
                incidents := [{ incident1 with zone := 0, latched := none, origin := none, points := 0, stale := false
                                               drill := true }] } }

theorem drilling_sound : allSound drilling := allCheck_sound _ (by decide +kernel)

/-- General evacuation with the same incident. -/
def general : State :=
  { fire with
    regime := { fire.regime with regime := .general }
    evac := { floors := ⟨[(0, sentFloor [.a]), (3, sentFloor [.a, .d]), (5, { Floor.fresh with phase := .defend })]⟩
              queue := [] } }

theorem general_sound : allSound general := allCheck_sound _ (by decide +kernel)

/-- The site on its way back, its relock hold running. -/
def homeward : State :=
  { site with
    regime := { RegimeUnit.fresh with regime := .standdown }
    evac := { floors := ⟨[(3, { Floor.fresh with phase := .standdown })]⟩, queue := [] }
    doors := { fire.doors with relockTimer := some 1100 } }

theorem homeward_sound : allSound homeward := allCheck_sound _ (by decide +kernel)

theorem reset_sound : allSound State.reset := allCheck_sound _ (by decide +kernel)

/-- The tenant program of floor 5, suspended. -/
def suspendedProg : Prog := { tenantProg with state := .suspended, engine := none, phraseTimer := none }

/-- The site on its way back with every floor NORMAL, the tenant program suspended and only the relock hold still running. -/
def returning : State :=
  { homeward with
    evac := { floors := .empty, queue := [] }
    audio := { AudioUnit.fresh with progs := ⟨[(1, suspendedProg)]⟩, tenants := [tenantOf1] } }

theorem returning_sound : allSound returning := allCheck_sound _ (by decide +kernel)

/-- A state with a request in hand on a link, and with one held too. -/
def busy (l : Link) (held : Option Instr) (s : State) : State :=
  s.setLink l { s.link l with inHand := some (.status l (hd .one) (some ())), held := held }

/-- Another live port P1 in the site. -/
def withP1 (x : PortLive) : State := site.setPort .p1 x

/-- The fire with another list of incidents. -/
def withIncidents (l : List Incident) : State := { fire with regime := { fire.regime with incidents := l } }

/-! ## Sentences of R97, R154 and R157 on those states -/

/-- The fire with another load on stair A. -/
def loaded (n : Nat) : State := { fire with stairs := fire.stairs.setStair .a ⟨n, true, false⟩ }

/-- R97: a share of 0 fits against a load that already exceeds its stair's capacity; a share of 1 does not. -/
theorem test_zero_share :
    (loaded 4095).fits [(.a, 0)] = true
      ∧ (loaded 4095).fits [(.a, 1)] = false := by
  decide +kernel

/-- R154: a cancellation after the expiry has marked the playing program finds no entry. -/
theorem test_cancel_after_expiry :
    next (exec (.tenantExpiry 1) site) (fun t => next (exec (.cancelAnnounce .host (hd .one) (some 1)) t) fun u =>
      (u.link .host).reply.map (·.verdict) = some (.refused .unknown)) = true := by decide +kernel

/-- R80, R93: the floors of Section 5.12 queued at 503 with hold deadline 623 have 119 s left at 504, and none once the count has
reached the deadline. -/
theorem test_hold_deadline_left :
    { State.reset with clock := 5042 }.secondsTo 623 = 119
      ∧ { State.reset with clock := 6230 }.secondsTo 623 = 0
      ∧ { State.reset with clock := 6240 }.secondsTo 623 = 0 := by decide

/-- The fire with a drill prefix and a DEFEND template of 16 phrases, and floor 5 UNPLACED since it was in ALERT. -/
def cutShort : State :=
  { fire with
    desc := { fire.desc with building := { siteBuilding with
      templates := ⟨[(2, List.replicate 16 (some 30)), (4, [some 31])]⟩ } }
    audio := { AudioUnit.fresh with
               drillCopy := true
               floors := ⟨[(5, { FloorEntry.fresh with content := some ⟨.alert, [30]⟩, placement := .unplaced })]⟩ } }

/-- R142, R144, R145: an UNPLACED floor that a freed number lets be placed takes a program of its present phase, cut to 16 phrases,
and the report counts what was cut from that list. -/
theorem test_unplaced_cut :
    let a := placeUnplaced cutShort ⟨cutShort.audio, [], []⟩
    (a.unit.progs.get 1).map (fun p => (p.kind, p.phrases)) = some (.defend, 31 :: List.replicate 15 30)
      ∧ (a.unit.floor 5).prog = some 1 ∧ (a.unit.floor 5).placement = .normal
      ∧ a.reports = [.contentCut 1 1] := by decide +kernel

/-- R157: with a frame held and none in hand, a newer good frame is discarded and the held one stays the next. -/
theorem test_held_first :
    let s := site.setLink .host { site.link .host with held := some (.status .host (hd .one) (some ())) }
    exec (.general .host (hd .one) (some ())) s = .next s := rfl

/-! ## Witnesses: for each statement with hypotheses, what meets them, clause by clause -/

/-! ### Steps, frames and replies -/

theorem witness_StepTakesFront :
    State.reset.pending = [] ∧ State.reset.due = []
      ∧ { State.reset with clock := 5 }.due = [.event .carPoll]
      ∧ { State.reset with clock := 10 }.due.length = 2 := by decide +kernel

theorem witness_RequestsAnswered :
    sentBy (.status .host (hd .one) none) = some (.host, hd .one)
      ∧ Instr.kind (.status .host (hd .one) none) = some 1 ∧ site.free .host
      ∧ sentBy (.cancelAnnounce .service (hd .three) (some 1)) = some (.service, hd .three)
      ∧ Instr.kind (.cancelAnnounce .service (hd .three) (some 1)) = some 33 ∧ site.free .service := by
  unfold State.free; decide +kernel

/-- A failed level, and kinds refused STATE while UNCONFIGURED. -/
theorem witness_RequestsAnswered_refusals :
    fire.free .host ∧ fire.levelNeeded 18 = 1 ∧ 1 < effectiveLevel .host (hd .two) ∧ site.levelNeeded 18 = 2
      ∧ State.reset.free .service ∧ State.reset.unconfigured = true ∧ needsBuilding 5 ∧ needsBuilding 8 ∧ needsBuilding 33
      ∧ effectiveLevel .service (hd .one) ≤ State.reset.levelNeeded 28 ∧ ¬ (29 ≤ 28 ∧ 28 ≤ 31)
      ∧ Instr.unreadable (.floorCommandAlert .service (hd .one) (some 3)) = false
      ∧ Instr.kind (.floorCommandAlert .service (hd .one) none) = some 29 := by
  unfold State.free needsBuilding; decide +kernel

/-- A body that cannot be read, where the conditions hold, and where FLOOR_COMMAND, DOOR_COMMAND and CAR_COMMAND look at it first. -/
theorem witness_RequestsAnswered_format :
    State.reset.regimeMet 29
      ∧ Instr.unreadable (.floorCommandAlert .service (hd .one) none) = true ∧ needsBuilding 29
      ∧ site.regimeMet 16 ∧ site.regimeMet 32 ∧ drilling.regimeMet 26 ∧ fire.regimeMet 28
      ∧ Instr.unreadable (.announce .host (hd .three) none) = true ∧ effectiveLevel .host (hd .three) ≤ site.levelNeeded 32
      ∧ site.unconfigured = false :=
  ⟨⟨by decide, by decide, by decide⟩, rfl, .inr (.inr (.inr (by decide))), ⟨fun _ => rfl, by decide, by decide⟩,
    ⟨fun _ => rfl, by decide, by decide⟩, ⟨by decide, fun _ => rfl, by decide⟩, ⟨by decide, by decide, fun _ => .inl rfl⟩,
    rfl, by decide, rfl⟩

theorem witness_RefusalsChangeNothing :
    sentBy (.status .host (hd .one) none) = some (.host, hd .one)
      ∧ Instr.kind (.status .host (hd .one) none) = some 1 ∧ site.free .host
      ∧ ∃ t, exec (.status .host (hd .one) none) site = .next t
        ∧ t.answered .host (hd .one) 1 (.refused .format) [] :=
  ⟨rfl, rfl, ⟨rfl, rfl⟩, _, rfl, rfl⟩

theorem witness_RequestsHeld :
    sentBy (.general .host (hd .one) (some ())) = some (.host, hd .one)
      ∧ ((busy .host none site).link .host).inHand = some (.status .host (hd .one) (some ()))
      ∧ ((busy .host none site).link .host).held = none
      ∧ ((busy .host (some .carPoll) site).link .host).inHand = some (.status .host (hd .one) (some ()))
      ∧ ((busy .host (some .carPoll) site).link .host).held ≠ none := by decide +kernel

theorem witness_LinkRefusals : site.free .host ∧ site.free .service := ⟨⟨rfl, rfl⟩, ⟨rfl, rfl⟩⟩

/-- The host receiver in a frame, with the bytes it has gathered. -/
def gathering (l : List Byte) : State :=
  site.setLink .host { site.link .host with receiver := .gathering, gathered := l, silence := some 1010 }

theorem witness_ReceiverEvents :
    ((busy .host (some .carPoll) site).link .host).held ≠ none
      ∧ (site.link .host).inHand = none ∧ ((busy .host none site).link .host).inHand ≠ none
      ∧ (site.link .host).receiver = .hunting ∧ (0xA4#8 : Byte) ≠ 0xA5#8
      ∧ ((gathering []).link .host).receiver = .gathering ∧ ((gathering []).link .host).silence ≠ none
      ∧ ((gathering []).link .host).gathered = []
      ∧ (2#8 : Byte).toNat < 3 ∧ 243 < (244#8 : Byte).toNat ∧ 3 ≤ (3#8 : Byte).toNat ∧ (243#8 : Byte).toNat ≤ 243
      ∧ ((gathering [3, 1, 2, 3]).link .host).gathered = 3#8 :: [1, 2, 3]
      ∧ ([1, 2, 3] : List Byte).length + 2 ≠ (3#8 : Byte).toNat + 3
      ∧ ((gathering [3, 1, 2, 3, 0]).link .host).gathered = 3#8 :: [1, 2, 3, 0]
      ∧ ([1, 2, 3, 0] : List Byte).length + 2 = (3#8 : Byte).toNat + 3
      ∧ b2 (crc (([3, 1, 2, 3, 0] ++ [0] : List Byte).take 4)).toNat
        ≠ ([3, 1, 2, 3, 0] ++ [0] : List Byte).drop 4 := by decide +kernel

/-- Figure 10-7's request, and one whose body takes all 240 bytes. -/
def adjustment : Instr := .adjustOccupancy .host ⟨2, .three, 65⟩ (some ⟨19, -45⟩)

def longest : Instr := .announce .host (hd .one) (some ⟨List.replicate 202 0, List.replicate 16 30, 0, 0, 0⟩)

theorem witness_RequestRoundTrip :
    adjustment.wf = true ∧ Instr.request adjustment = some (.host, ⟨2, .three, 65⟩, [19#8, 0xFF#8, 0xD3#8])
      ∧ Instr.kind adjustment = some 6 ∧ Instr.storeWrite adjustment = none
      ∧ longest.wf = true ∧ (Instr.request longest).map (fun x => x.2.2.length) = some 240
      ∧ Instr.kind longest = some 32
      ∧ (Instr.setSection .host (hd .one) .failed (some ⟨3, none⟩)).wf = true
      ∧ Instr.request (.setSection .host (hd .one) .failed (some ⟨3, none⟩)) = some (.host, hd .one, [3#8])
      ∧ Instr.storeWrite (.setSection .host (hd .one) .failed (some ⟨3, none⟩)) = some .failed := by
  decide +kernel

theorem witness_FrameBringsRequest :
    adjustment.wf = true ∧ Instr.request adjustment = some (.host, ⟨2, .three, 65⟩, [19#8, 0xFF#8, 0xD3#8])
      ∧ Instr.kind adjustment = some 6 ∧ Instr.storeWrite adjustment = none
      ∧ longest.wf = true ∧ (Instr.request longest).map (fun x => x.2.2.length) = some 240
      ∧ (site.link .host).receiver = .hunting ∧ (site.link .host).inHand = none
      ∧ ((busy .host none site).link .host).receiver = .hunting
      ∧ ((busy .host none site).link .host).inHand ≠ none ∧ ((busy .host none site).link .host).held = none
      ∧ ((busy .host (some .carPoll) site).link .host).receiver = .hunting
      ∧ ((busy .host (some .carPoll) site).link .host).held ≠ none := by decide +kernel

/-- Frames of a claimed level of 0, of an unknown kind, of bodies that cannot be read, and of one that can. -/
theorem witness_FrameBringsRequest_any :
    parseRequest .host .written [0x20#8, 7#8, 1#8] = some (.badClaimedLevel .host 2 7 1)
      ∧ parseRequest .host .written [0x21#8, 7#8, 34#8] = some (.invalidKind .host ⟨2, .one, 7⟩ 34)
      ∧ parseRequest .host .written [0x22#8, 7#8, 1#8, 0#8] = some (.status .host ⟨2, .two, 7⟩ none)
      ∧ parseRequest .host .failed [0x22#8, 7#8, 8#8] = some (.setFloor .host ⟨2, .two, 7⟩ .failed none)
      ∧ parseRequest .host .written [0x2F#8, 7#8, 23#8, 9#8] = some (.relatch .host ⟨2, .three, 7⟩ (some 9)) := by
  decide +kernel

/-! ### Report queues, looking, occupancy -/

/-- A host queue of `n` reports. -/
def queued (n : Nat) : State :=
  site.setLink .host { site.link .host with reports := List.replicate n ⟨5, .zoneFault 3⟩, overflow := true }

theorem queued_sound (n : Nat) (h : n ≤ 64) : (queued n).queuesSound := by
  refine ⟨fun l => ?_, fun r hr => ?_⟩
  · cases l
    · show (List.replicate n _).length ≤ 64
      simpa using h
    · show ([] : List ReportRecord).length ≤ 64
      decide
  · cases hr

theorem witness_ReportPlacement :
    (queued 64).queuesSound ∧ (queued 0).queuesSound ∧ ∃ t, exec (.zoneLineFault 0) (queued 64) = .next t :=
  ⟨queued_sound 64 (by decide), queued_sound 0 (by decide), _, rfl⟩

theorem witness_OverflowFlag :
    (queued 64).links.host.reports.length = 64 ∧ (queued 63).links.host.reports.length < 64
      ∧ (Report.zoneFault 3).cls = .audio ∧ Report.storeRestored.cls = .supervision
      ∧ (Report.floorNormal 3).cls ≠ .audio ∧ (Report.floorNormal 3).cls ≠ .supervision
      ∧ ({ (queued 64).links with service := (queued 64).links.host }).service.reports.length = 64
      ∧ (queued 0).links.service.reports.length < 64
      ∧ ((queued 64).link .host).overflow = true ∧ (queued 64).free .host ∧ site.free .service
      ∧ ∃ t, exec (.zoneLineFault 0) (queued 64) = .next t :=
  ⟨rfl, by decide, rfl, rfl, by decide, by decide, rfl, by decide, rfl, ⟨rfl, rfl⟩, ⟨rfl, rfl⟩, _, rfl⟩

theorem witness_FetchReturnsOldest : (queued 9).free .host ∧ (queued 0).free .service := ⟨⟨rfl, rfl⟩, ⟨rfl, rfl⟩⟩

theorem witness_StatusReply : (queued 64).free .host ∧ general.free .service := ⟨⟨rfl, rfl⟩, ⟨rfl, rfl⟩⟩

theorem witness_QueryReplies : fire.free .host ∧ State.reset.free .service := ⟨⟨rfl, rfl⟩, ⟨rfl, rfl⟩⟩

/-- The site of 48 floors. -/
def tall : State :=
  { site with desc := { site.desc with building := { siteBuilding with
      building := siteBuilding.building.map fun b => { b with fc := 48 } } } }

theorem witness_ScanMatches : fire.free .host ∧ fire.fc ≤ 48 ∧ tall.free .host ∧ tall.fc = 48 := by
  unfold State.free; decide +kernel

theorem witness_OccupancyRequests :
    allSound State.reset ∧ State.reset.free .host ∧ State.reset.unconfigured = true
      ∧ allSound fire ∧ fire.free .service ∧ fire.unconfigured = false ∧ fire.fc ≤ 8 ∧ 7 < fire.fc
      ∧ fire.head = some 1 :=
  ⟨reset_sound, ⟨rfl, rfl⟩, rfl, fire_sound, ⟨rfl, rfl⟩, by decide +kernel⟩

/-! ### Cold start and loads -/

theorem witness_ColdStart : State.canonical fire ∧ State.canonical State.reset := ⟨fire_sound.1, reset_sound.1⟩

theorem witness_LoadConditions :
    sentBy (.setBuilding .host (hd .three) .written none) = some (.host, hd .three)
      ∧ Instr.kind (.setBuilding .host (hd .three) .written none) = some 7 ∧ 2 < effectiveLevel .host (hd .three)
      ∧ sentBy (.setPort .host (hd .one) .written none) = some (.host, hd .one)
      ∧ Instr.kind (.setPort .host (hd .one) .written none) = some 16 ∧ effectiveLevel .host (hd .one) ≤ 2
      ∧ fire.free .host ∧ fire.regime.regime ≠ .normal ∧ fire.unconfigured = false
      ∧ Instr.kind (.stairUse .host (hd .three) .written none) = some 22
      ∧ Instr.kind (.setZone .host (hd .two) .written none) = some 17 ∧ 1 < effectiveLevel .host (hd .two)
      ∧ Instr.kind (.restoreZone .host (hd .three) .written none) = some 21
      ∧ effectiveLevel .host (hd .two) ≤ 2 ∧ Instr.kind (.clearRange .service (hd .one) .written none) = some 19
      ∧ effectiveLevel .service (hd .one) ≤ 1
      ∧ site.free .host ∧ site.regime.regime = .normal := by
  unfold State.free; decide +kernel

/-- Reset with P1 serial and a point of it in ALARM. -/
def alarmed : State :=
  { State.reset with
    desc := { State.reset.desc with input := ⟨⟨[(1, ⟨.serial, some (0, 7), 10, 5⟩)]⟩⟩ }
    panel := { ports := .empty, points := ⟨[(105, ⟨.alarm, false, 0, 1⟩), (1031, ⟨.alarm, false, 0, 1⟩)]⟩ } }

theorem witness_BuildingLoads :
    site.free .host ∧ effectiveLevel .host (hd .two) ≤ 2 ∧ site.regime.regime = .normal
      ∧ max 2 (min 48 8) ≤ 8 ∧ 7 < max 2 (min 48 8) ∧ site.unconfigured = false ∧ 7 < site.fc ∧ ¬ 8 < site.fc
      ∧ (∃ r ∈ site.desc.building.stairs.rows, 7 ≤ r.2.low ∨ 7 ≤ r.2.high)
      ∧ (∃ r ∈ site.desc.building.banks.rows, 7 ≤ r.2.p ∨ 7 ≤ r.2.q ∨ 7 ≤ r.2.low ∨ 7 ≤ r.2.high)
      ∧ (∃ r ∈ site.desc.building.doors.rows, 3 ≤ doorFloor r.1) ∧ (∃ e ∈ site.audio.tenants, ∃ f ∈ e.floors, 5 ≤ f)
      ∧ State.reset.free .host ∧ State.reset.regime.regime = .normal
      ∧ State.reset.unconfigured = true ∧ State.reset.panel.alarms = [] ∧ State.reset.desc.building.floors.rows = []
      ∧ State.reset.desc.input.ports.rows = [] ∧ State.reset.desc.building.doors.rows = []
      ∧ alarmed.free .host ∧ alarmed.regime.regime = .normal
      ∧ (∃ r ∈ alarmed.desc.input.ports.rows, ∃ y ∈ r.2.range, 7 ≤ y.1 ∨ 7 ≤ y.2)
      ∧ (¬ ∃ r ∈ alarmed.desc.input.ports.rows, ∃ y ∈ r.2.range, 8 ≤ y.1 ∨ 8 ≤ y.2)
      ∧ alarmed.unconfigured = true ∧ regimeCheck alarmed.regime = true
      ∧ alarmed.panel.alarms = [(.p1, 105), (.p2, 7)] := by
  unfold State.free; decide +kernel

/-- The premises of the hand-over of R16. -/
theorem witness_BuildingLoads_alarms : alarmed.canonical ∧ alarmed.pointsSound ∧ alarmed.regime.sound :=
  ⟨canonicalCheck_sound _ (by decide +kernel), pointsCheck_sound _ (by decide +kernel), regimeCheck_sound _ (by decide)⟩

theorem site_takesLoad : site.takesLoad .host (hd .two) := by
  unfold State.takesLoad State.free; decide +kernel

theorem witness_FloorLoads :
    site.takesLoad .host (hd .two) ∧ site.canonical ∧ site.evac.queue = [] ∧ site.fc ≤ 8 ∧ 7 < site.fc :=
  ⟨site_takesLoad, site_sound.1, by decide +kernel⟩

theorem witness_StairLoads :
    site.takesLoad .host (hd .two) ∧ site.canonical ∧ site.queueSound
      ∧ (7 < 8) ∧ site.fc ≤ 8 ∧ site.desc.building.phrases.get 32 = none
      ∧ 7 < site.fc ∧ site.desc.building.phrases.get 511 ≠ none
      ∧ (∃ n ∈ site.doorsOfStair .a, doorFloor n < 4 ∨ 7 < doorFloor n)
      ∧ (∀ n ∈ site.doorsOfStair .a, 3 ≤ doorFloor n ∧ doorFloor n ≤ 4)
      ∧ site.doorsOfStair .b ≠ [] ∧ (site.stairs.stair .a).load ≠ 0
      ∧ site.doorsOfStair .d = [] ∧ (site.stairs.stair .d).load = 0
      ∧ (0 < 1 ∨ 4 < 0) ∧ (5 < 1 ∨ 4 < 5) ∧ (0 ≤ 7) :=
  ⟨site_takesLoad, site_sound.1, site_sound.2.2.1, by decide +kernel⟩

theorem witness_LiftLoads :
    site.takesLoad .host (hd .two) ∧ site.canonical
      ∧ 7 < site.fc ∧ site.fc ≤ 8 ∧ site.bankCars .one ≠ [] ∧ site.bankCars .two = []
      ∧ site.desc.building.banks.get (bankNumber .one) ≠ none
      ∧ (∃ r ∈ site.desc.building.cars.rows, r.1 ≠ 8 ∧ r.2 = ⟨.one, 0⟩)
      ∧ (∀ r ∈ site.desc.building.cars.rows, r.1 ≠ 1 → r.2 ≠ ⟨.one, 3⟩)
      ∧ (∀ r ∈ site.desc.building.cars.rows, r.1 ≠ 5 → r.2 ≠ ⟨.one, 2⟩)
      ∧ (site.lifts.cars.get 5).map (·.state) = some .firefighter ∧ site.lifts.cars.get 1 = none
      ∧ (0 < 1 ∨ 2 < 0) ∧ (3 < 1 ∨ 2 < 3) ∧ (0 < 1 ∨ 8 < 0) ∧ (9 < 1 ∨ 8 < 9) ∧ 1 ≤ 8 ∧ 3 < 4 :=
  ⟨site_takesLoad, site_sound.1, by decide +kernel⟩

theorem witness_DoorLoads :
    site.takesLoad .host (hd .two) ∧ site.canonical ∧ site.doorsSound
      ∧ (site.doors.sections.get 3).map (·.grants.length) = some 2 ∧ max 1 (min 32 1) < 2 ∧ 2 ≤ max 1 (min 32 33)
      ∧ site.desc.building.sections.get 8 = none ∧ site.desc.building.sections.get 3 = some 2
      ∧ (∃ r ∈ site.desc.building.doors.rows, r.2.sec = 3) ∧ (∀ r ∈ site.desc.building.doors.rows, r.2.sec ≠ 4)
      ∧ 3 < site.fc ∧ site.serves .a 3 = true ∧ (site.doors.doors.get (doorNumber 3 .b)).map (·.state) = some .released
      ∧ (site.doors.doors.get (doorNumber 3 .a)).map (·.state) = some .locked
      ∧ 7 < site.fc ∧ site.serves .a 7 = true ∧ site.doors.doors.get (doorNumber 7 .a) = none
      ∧ site.desc.building.doors.get (doorNumber 7 .a) = none ∧ site.fc ≤ 8 ∧ site.serves .b 0 = false
      ∧ site.doors.nodes.get 7 = none ∧ site.doorsOfFloor 3 = [12, 13]
      ∧ (0 < 1 ∨ 8 < 0) ∧ (9 < 1 ∨ 8 < 9) ∧ (0 < 1 ∨ 4 < 0) ∧ (5 < 1 ∨ 4 < 5) :=
  ⟨site_takesLoad, site_sound.1, site_sound.2.2.2.2.1, by decide +kernel⟩

theorem witness_MessageLoads :
    site.takesLoad .host (hd .two) ∧ site.canonical ∧ (511 < 512)
      ∧ (∃ r ∈ site.desc.building.stairs.rows, r.2.phrase = 31) ∧ (∃ e ∈ site.audio.tenants, 30 ∈ e.phrases)
      ∧ (∃ r ∈ site.desc.building.templates.rows, some 30 ∈ r.2)
      ∧ (∀ r ∈ site.desc.building.templates.rows, some 511 ∉ r.2)
      ∧ (∀ r ∈ site.desc.building.stairs.rows, r.2.phrase ≠ 511) ∧ (∀ e ∈ site.audio.tenants, 511 ∉ e.phrases)
      ∧ ([] : List (Option Nat)).length = 0 ∧ ([some 30, none] : List (Option Nat)).count none = 1
      ∧ none ∉ List.replicate 16 (some 511) ∧ site.desc.building.phrases.get 511 ≠ none
      ∧ site.desc.building.phrases.get 30 ≠ none ∧ site.desc.building.phrases.get 510 = none :=
  ⟨site_takesLoad, site_sound.1, by decide +kernel⟩

theorem witness_PortLoads :
    site.free .host ∧ effectiveLevel .host (hd .two) ≤ 2 ∧ site.regime.regime = .normal ∧ allSound site
      ∧ site.unconfigured = false ∧ site.fc = 8 ∧ (site.portRec .p1).mode = .serial
      ∧ (site.portRec .p2).mode = .contact
      ∧ State.reset.free .host ∧ State.reset.regime.regime = .normal ∧ allSound State.reset
      ∧ State.reset.unconfigured = true :=
  ⟨⟨rfl, rfl⟩, by decide, rfl, site_sound, rfl, rfl, rfl, rfl, ⟨rfl, rfl⟩, rfl, reset_sound, rfl⟩

theorem takesMap_both : site.takesMap .host (hd .two) ∧ fire.takesMap .service (hd .one) := by
  unfold State.takesMap State.free; decide +kernel

theorem witness_ZoneLoads :
    fire.free .host ∧ 1 < effectiveLevel .host (hd .two) ∧ site.free .host ∧ 2 < effectiveLevel .host (hd .three)
      ∧ site.takesMap .host (hd .two) ∧ fire.takesMap .service (hd .one) ∧ site.canonical ∧ fire.canonical
      ∧ site.desc.building.stairs.get 1 ≠ none ∧ site.desc.building.stairs.get 3 = none
      ∧ site.desc.building.banks.get 2 ≠ none ∧ site.desc.building.banks.get 3 = none :=
  ⟨⟨rfl, rfl⟩, by decide, ⟨rfl, rfl⟩, by decide, takesMap_both.1, takesMap_both.2, site_sound.1, fire_sound.1,
    by decide +kernel⟩

/-- A full range table: the first 256 points of P4, one to a range. -/
def fullMap : State :=
  { site with desc := { site.desc with map := { siteMap with
      ranges := (List.range 256).map fun n => ⟨.p4, n + 1, 1, 0⟩ } } }

theorem fullMap_sound : rangesSound fullMap.desc.map.ranges := by
  show rangesSound ((List.range 256).map fun n => (⟨.p4, n + 1, 1, 0⟩ : Range))
  refine ⟨by simp, ?_, ?_, fun r hr => ?_⟩
  · rw [List.pairwise_map]
    exact List.pairwise_lt_range.imp fun h => Nat.add_lt_add_left (Nat.add_lt_add_right h 1) _
  · rw [List.pairwise_map]
    exact List.pairwise_lt_range.imp fun h => by simp [Range.overlaps]; omega
  · obtain ⟨n, hn, rfl⟩ := List.mem_map.1 hr
    have := List.mem_range.1 hn
    simp; omega

theorem witness_RangeLoads :
    site.takesMap .host (hd .two) ∧ rangesSound site.desc.map.ranges
      ∧ (∃ r ∈ site.desc.map.ranges, r.port = .p1 ∧ r.first ≠ 200 ∧ 200 < r.first + r.count ∧ r.first < 200 + 1)
      ∧ (∃ r ∈ site.desc.map.ranges, r.port = .p1 ∧ r.first = 101)
      ∧ (∀ r ∈ site.desc.map.ranges, ¬ (r.port = .p4 ∧ r.first ≠ 1 ∧ 1 < r.first + r.count ∧ r.first < 1 + 1023))
      ∧ site.desc.map.ranges.length < 256
      ∧ fullMap.takesMap .host (hd .two) ∧ rangesSound fullMap.desc.map.ranges
      ∧ fullMap.desc.map.ranges.length = 256
      ∧ (∀ r ∈ fullMap.desc.map.ranges, ¬ (r.port = .p4 ∧ r.first = 1023))
      ∧ ∀ r ∈ fullMap.desc.map.ranges, ¬ (r.port = .p4 ∧ r.first ≠ 1023 ∧ 1023 < r.first + r.count ∧ r.first < 1023 + 1) := by
  have e : fullMap.takesMap .host (hd .two) := by unfold State.takesMap State.free; decide +kernel
  exact ⟨takesMap_both.1, site_sound.2.2.2.2.2.2.2, by decide +kernel, by decide +kernel, by decide +kernel,
    by decide +kernel, e, fullMap_sound, by decide +kernel, by decide +kernel, by decide +kernel⟩

theorem witness_RangeClear :
    site.free .host ∧ rangesSound site.desc.map.ranges ∧ fire.free .host ∧ 1 < effectiveLevel .host (hd .two)
      ∧ effectiveLevel .host (hd .two) ≤ 2
      ∧ (∀ r ∈ site.desc.map.ranges, ¬ (r.port = .p1 ∧ r.first = 102))
      ∧ (⟨.p1, 101, 100, 12⟩ : Range) ∈ site.desc.map.ranges :=
  ⟨⟨rfl, rfl⟩, site_sound.2.2.2.2.2.2.2, ⟨rfl, rfl⟩, by decide +kernel⟩

theorem witness_ZoneIsolation :
    allSound site ∧ site.free .host ∧ (¬ (1 ≤ 0 ∧ 0 ≤ 127)) ∧ (¬ (1 ≤ 128 ∧ 128 ≤ 127))
      ∧ ¬ (effectiveLevel .host (hd .two) ≤ (site.zone 14).lock) ∧ (site.zone 14).lock ≤ 3
      ∧ allSound fire ∧ (∃ i ∈ fire.regime.incidents, i.zone = 12)
      ∧ (∀ i ∈ site.regime.incidents, i.zone ≠ 13) ∧ effectiveLevel .host (hd .two) ≤ (site.zone 13).lock
      ∧ (site.zone 13).isolated = true ∧ site.unconfigured = false
      ∧ (site.zoneAlarms 13).filter (fun x => (site.point x.1 x.2).incident = 0) = [(.p1, 205)]
      ∧ (site.zone 127).isolated = false ∧ fire.free .service :=
  ⟨site_sound, ⟨rfl, rfl⟩, by decide, by decide, by decide +kernel, by decide +kernel, fire_sound, by decide +kernel,
    by decide +kernel, by decide +kernel, by decide +kernel, rfl, by decide +kernel, by decide +kernel, ⟨rfl, rfl⟩⟩

theorem witness_TranslationSteps :
    rangesSound site.desc.map.ranges
      ∧ (∀ r ∈ site.desc.map.ranges, ¬ (r.port = .p1 ∧ r.first ≤ 100 ∧ 100 < r.first + r.count))
      ∧ (⟨.p1, 401, 10, 0⟩ : Range) ∈ site.desc.map.ranges
      ∧ (⟨.p1, 501, 5, 16⟩ : Range) ∈ site.desc.map.ranges ∧ (site.zone 16).area = none
      ∧ (⟨.p1, 101, 100, 12⟩ : Range) ∈ site.desc.map.ranges
      ∧ (site.zone 12).area = some ⟨.floor, 2, 4, 20, 79⟩ ∧ 79 < 181 - 101 ∧ 180 - 101 ≤ 79
      ∧ (⟨.p1, 301, 51, 15⟩ : Range) ∈ site.desc.map.ranges
      ∧ (site.zone 15).area = some ⟨.floor, 6, 1, 10, 50⟩ ∧ min (6 + 1) site.fc < 6 + (311 - 301) / 10 + 1
      ∧ (⟨.p1, 201, 16, 13⟩ : Range) ∈ site.desc.map.ranges ∧ (site.zone 13).isolated = true
      ∧ (site.zone 12).isolated = false :=
  ⟨site_sound.2.2.2.2.2.2.2, by decide +kernel⟩

/-! ### The regime -/

theorem witness_GeneralEvacuation_entries :
    allSound fire ∧ fire.regime.regime = .alarm
      ∧ allSound site ∧ site.free .host ∧ site.unconfigured = false ∧ site.regime.regime = .normal
      ∧ (site.lifts.cars.get 3).map (fun c => (c.state, c.position)) = some (.auto, some 5)
      ∧ site.carBank 3 = some (.one, ⟨0, 2, 0, 7⟩)
      ∧ allSound homeward ∧ homeward.free .host ∧ homeward.unconfigured = false ∧ homeward.regime.regime = .standdown
      ∧ homeward.doors.relockTimer ≠ none :=
  ⟨fire_sound, rfl, site_sound, ⟨rfl, rfl⟩, rfl, rfl, by decide +kernel, by decide +kernel, homeward_sound, ⟨rfl, rfl⟩, rfl,
    rfl, by decide⟩

theorem witness_GeneralEvacuation :
    fire.free .host ∧ fire.canonical ∧ 2 < effectiveLevel .host (hd .three) ∧ effectiveLevel .host (hd .two) ≤ 2
      ∧ State.reset.free .host ∧ State.reset.canonical ∧ State.reset.unconfigured = true
      ∧ fire.unconfigured = false ∧ fire.regime.regime ≠ .general
      ∧ general.free .host ∧ general.canonical ∧ general.unconfigured = false ∧ general.regime.regime = .general :=
  ⟨⟨rfl, rfl⟩, fire_sound.1, by decide, by decide, ⟨rfl, rfl⟩, reset_sound.1, rfl, rfl, by decide, ⟨rfl, rfl⟩, general_sound.1, rfl, rfl⟩

theorem witness_StandDowns :
    fire.free .service ∧ fire.canonical ∧ fire.queueSound ∧ fire.unconfigured = false ∧ fire.regime.regime = .alarm
      ∧ fire.regime.drill = false ∧ fire.activePoints = [(.p1, 105)] ∧ effectiveLevel .service (hd .one) ≤ 1
      ∧ 1 < effectiveLevel .service (hd .two)
      ∧ burntOut.free .service ∧ burntOut.canonical ∧ burntOut.queueSound ∧ burntOut.unconfigured = false
      ∧ burntOut.regime.regime = .alarm ∧ burntOut.activePoints = []
      ∧ drilling.free .host ∧ drilling.canonical ∧ drilling.queueSound ∧ drilling.unconfigured = false
      ∧ drilling.regime.regime = .alarm ∧ drilling.regime.drill = true ∧ effectiveLevel .host (hd .two) ≤ 2
      ∧ general.regime.regime = .general :=
  ⟨⟨rfl, rfl⟩, fire_sound.1, fire_sound.2.2.1, rfl, rfl, rfl, by decide +kernel, by decide, by decide, ⟨rfl, rfl⟩, burntOut_sound.1,
    burntOut_sound.2.2.1, rfl, rfl, by decide +kernel, ⟨rfl, rfl⟩, drilling_sound.1, drilling_sound.2.2.1, rfl, rfl, rfl,
    by decide, rfl⟩

theorem witness_StandDowns_refusals :
    2 < effectiveLevel .host (hd .three) ∧ site.free .service ∧ site.canonical ∧ site.regime.drill = false
      ∧ ¬ (site.regime.regime = .alarm ∨ site.regime.regime = .general) ∧ site.unconfigured = false
      ∧ homeward.canonical ∧ ¬ (homeward.regime.regime = .alarm ∨ homeward.regime.regime = .general)
      ∧ State.reset.free .service ∧ State.reset.canonical ∧ State.reset.unconfigured = true
      ∧ allSound burntOut ∧ allSound drilling :=
  ⟨by decide, ⟨rfl, rfl⟩, site_sound.1, rfl, by decide, rfl, homeward_sound.1, by decide, ⟨rfl, rfl⟩, reset_sound.1, rfl,
    burntOut_sound, drilling_sound⟩

theorem witness_DrillStart :
    2 < effectiveLevel .host (hd .three) ∧ site.free .host ∧ effectiveLevel .host (hd .two) ≤ 2 ∧ allSound site ∧ site.regime.regime = .normal
      ∧ site.unconfigured = false ∧ site.fc ≤ 8 ∧ 7 < site.fc
      ∧ fire.free .host ∧ allSound fire ∧ fire.regime.regime ≠ .normal
      ∧ State.reset.free .host ∧ allSound State.reset ∧ State.reset.unconfigured = true :=
  ⟨by decide, ⟨rfl, rfl⟩, by decide, site_sound, rfl, rfl, by decide, by decide, ⟨rfl, rfl⟩, fire_sound, by decide, ⟨rfl, rfl⟩, reset_sound, rfl⟩

/-- Point 105's answer now: floor 2, in the map as it stands. -/
def answer105 : Result :=
  { zone := 12, kind := .floor, first := 2, count := 1, origin := (.p1, 105), latched := some ⟨.floor, 2, 4, 20, 4⟩ }

/-- A second incident with that identity. -/
def incident2 : Incident := { incident1 with number := 2, first := 2, origin := some (.p1, 106), opened := 97 }

/-- Incident 1 from a point that an isolated zone holds. -/
def sheltered : State := withIncidents [{ incident1 with origin := some (.p1, 205) }]

theorem sheltered_sound : allSound sheltered := allCheck_sound _ (by decide +kernel)

theorem twoIncidents_sound : allSound (withIncidents [incident1, incident2]) := allCheck_sound _ (by decide +kernel)

theorem witness_Relatching :
    fire.free .host ∧ effectiveLevel .host (hd .two) ≤ 2 ∧ fire.unconfigured = false ∧ allSound fire
      ∧ fire.regime.find 2 = none ∧ fire.regime.find 1 = some incident1 ∧ incident1.origin = some (.p1, 105)
      ∧ fire.translate .p1 105 = .located answer105
      ∧ fire.regime.incidents.filter (fun j => j.number ≠ 1 ∧ j.zone = 12 ∧ j.first = 2) = []
      ∧ allSound (withIncidents [incident1, incident2]) ∧ (withIncidents [incident1, incident2]).free .host
      ∧ (withIncidents [incident1, incident2]).translate .p1 105 = .located answer105
      ∧ (withIncidents [incident1, incident2]).regime.incidents.filter
        (fun j => j.number ≠ 1 ∧ j.zone = 12 ∧ j.first = 2) = [incident2]
      ∧ allSound drilling ∧ drilling.free .host ∧ (drilling.regime.find 1).map (·.origin) = some none
      ∧ allSound sheltered ∧ sheltered.free .host
      ∧ (sheltered.regime.find 1).map (·.origin) = some (some (.p1, 205))
      ∧ sheltered.translate .p1 205 = .isolated 13
      ∧ 2 < effectiveLevel .host (hd .three)
      ∧ State.reset.free .host ∧ allSound State.reset ∧ State.reset.unconfigured = true :=
  ⟨⟨rfl, rfl⟩, by decide, rfl, fire_sound, by decide +kernel, by decide +kernel, rfl, rfl, by decide +kernel,
    twoIncidents_sound, ⟨rfl, rfl⟩, rfl, by decide +kernel, drilling_sound, ⟨rfl, rfl⟩, by decide +kernel, sheltered_sound, ⟨rfl, rfl⟩,
    by decide +kernel, rfl, by decide, ⟨rfl, rfl⟩, reset_sound, rfl⟩

/-! ### What an incident does to the floors and to the regime -/

/-- The fire with zone 12 of a kind. -/
def withKind (k : IncidentKind) : State :=
  { fire with desc := { fire.desc with map := { siteMap with
      zones := siteMap.zones.write Zone.undefined 12 ⟨some ⟨k, 2, 4, 20, 79⟩, 3, false, 4⟩ } } }

/-- The site with its stairs full and 100 people on each floor. -/
def packed : State :=
  { site with
    stairs := { site.stairs with live := ⟨[(1, ⟨4095, true, false⟩), (4, ⟨4095, true, false⟩)]⟩ }
    evac := { floors := ⟨(List.range 8).map fun f => (f, { Floor.fresh with occupancy := 100 })⟩, queue := [] } }

/-- Incidents on two floors, and a third record on one of them. -/
def threeFires : State :=
  withIncidents [incident1, { incident1 with number := 2, zone := 14, origin := some (.p1, 106) },
    { incident1 with number := 3, first := 5, origin := some (.p1, 107) }]

/-- Answers and alarms of kinds STAIR and SHAFT. -/
theorem witness_Relatching_kinds :
    allSound (withKind (.stair .a)) ∧ allSound (withKind (.shaft .one))
      ∧ (∃ r, (withKind (.stair .a)).translate .p1 105 = .located r ∧ r.kind = .stair .a)
      ∧ (∃ r, (withKind (.shaft .one)).translate .p1 105 = .located r ∧ r.kind = .shaft .one)
      ∧ (∃ r, (withKind (.stair .a)).results .p1 125 r ∧ r.kind = .stair .a)
      ∧ ∃ r, (withKind (.shaft .one)).results .p1 125 r ∧ r.kind = .shaft .one :=
  ⟨allCheck_sound _ (by decide +kernel), allCheck_sound _ (by decide +kernel), ⟨_, rfl, rfl⟩, ⟨_, rfl, rfl⟩,
    ⟨_, .inl rfl, rfl⟩, ⟨_, .inl rfl, rfl⟩⟩

/-- The threshold reached by a relatch, and not reached by another; the queue in ALARM. -/
theorem witness_Relatching_threshold :
    allSound threeFires ∧ allSound fire
      ∧ next (exec (.relatch .host (hd .two) (some 1)) threeFires) (fun t => t.regime.regime = .general) = true
      ∧ next (exec (.relatch .host (hd .two) (some 1)) fire) (fun t => t.regime.regime = .alarm) = true :=
  ⟨allCheck_sound _ (by decide +kernel), fire_sound, by decide +kernel, by decide +kernel⟩

/-- An alarm that leaves floors queued, one in ALARM with floors queued, one that reaches the threshold and one in GENERAL. -/
theorem witness_AlarmTaken_floors :
    allSound packed
      ∧ next (exec (.pointEvent .p1 101 .alarm) packed) (fun t => t.evac.queue.map (·.floor) = [4, 5, 6, 7, 0]) = true
      ∧ next (exec (.pointEvent .p1 161 .alarm) fire) (fun t => t.evac.queue.map (·.floor) = [1]) = true
      ∧ next (exec (.pointEvent .p1 1023 .alarm) threeFires) (fun t => t.regime.regime = .general) = true
      ∧ allSound general
      ∧ next (exec (.pointEvent .p1 301 .alarm) general) (fun t => t.regime.incidents.length = 2) = true :=
  ⟨allCheck_sound _ (by decide +kernel), by decide +kernel, by decide +kernel, by decide +kernel, general_sound,
    by decide +kernel⟩

/-! ### Points -/

/-- Sixteen incidents on zones that no range names. -/
def crowded : State :=
  withIncidents ((List.range 16).map fun n => { incident1 with number := n + 1, zone := n + 100 })

theorem crowded_sound : allSound crowded := allCheck_sound _ (by decide +kernel)

theorem witness_AlarmTaken :
    site.canonical ∧ (site.portRec .p2).mode = .contact
      ∧ ((withP1 { serialPort with state := .unsupervised }).port .p1).state = .unsupervised
      ∧ allSound fire ∧ (fire.portRec .p1).mode = .serial ∧ (fire.port .p1).state ≠ .unsupervised
      ∧ fire.unconfigured = false
      ∧ panelCondition .clear = (fire.point .p1 1).condition ∧ panelCondition .alarm = (fire.point .p1 105).condition
      ∧ (fire.point .p1 206).condition ≠ .alarm ∧ fire.translate .p1 206 = .isolated 13
      ∧ (fire.point .p1 125).condition ≠ .alarm
      ∧ (∃ r, fire.results .p1 125 r ∧ incident1 ∈ fire.regime.incidents ∧ incident1.drill = false
        ∧ incident1.zone = r.zone ∧ incident1.first = r.first)
      ∧ (∃ r, fire.results .p1 1023 r ∧ (∀ i ∈ fire.regime.incidents, i.drill = false →
          ¬ (i.zone = r.zone ∧ i.first = r.first)) ∧ fire.regime.incidents.length < 16)
      ∧ (∃ r, crowded.results .p1 101 r ∧ (∀ i ∈ crowded.regime.incidents, i.drill = false →
          ¬ (i.zone = r.zone ∧ i.first = r.first)) ∧ crowded.regime.incidents.length = 16)
      ∧ allSound crowded ∧ crowded.regime.regime = .alarm ∧ (fire.point .p1 105).condition = .alarm :=
  ⟨site_sound.1, rfl, rfl, fire_sound, rfl, by decide, rfl, rfl, rfl, by decide, rfl, by decide,
    ⟨_, .inl rfl, by decide, rfl, rfl, rfl⟩, ⟨_, .inr ⟨_, rfl⟩, by decide +kernel, by decide⟩,
    ⟨_, .inl rfl, by decide +kernel, by decide +kernel⟩, crowded_sound, rfl, rfl⟩

/-- The fire with point 301 of P1 in FAULT. -/
def faulty : State := { fire with panel := { fire.panel with
  points := ⟨[(105, ⟨.alarm, false, 1, 95⟩), (205, ⟨.alarm, false, 0, 90⟩), (301, ⟨.fault, false, 0, 91⟩)]⟩ } }

/-- Where a new alarm makes the regime ALARM, or ends a drill; a point in FAULT; and a coordinator without a building. -/
theorem witness_AlarmTaken_entries :
    allSound site ∧ site.regime.regime = .normal ∧ (∃ r, site.results .p1 125 r) ∧ (site.portRec .p1).mode = .serial
      ∧ site.unconfigured = false
      ∧ allSound homeward ∧ homeward.regime.regime = .standdown ∧ (∃ r, homeward.results .p1 125 r)
      ∧ allSound drilling ∧ drilling.regime.drill = true ∧ (∃ r, drilling.results .p1 125 r)
      ∧ allSound faulty ∧ (faulty.portRec .p1).mode = .serial ∧ (faulty.point .p1 301).condition = .fault
      ∧ allSound alarmed ∧ alarmed.unconfigured = true ∧ (alarmed.portRec .p1).mode = .serial
      ∧ (alarmed.port .p1).state ≠ .unsupervised ∧ (alarmed.point .p1 105).condition = .alarm
      ∧ (alarmed.point .p1 1023).condition ≠ .alarm :=
  ⟨site_sound, rfl, ⟨_, .inl rfl⟩, rfl, rfl, homeward_sound, rfl, ⟨_, .inl rfl⟩, drilling_sound, rfl, ⟨_, .inl rfl⟩,
    allCheck_sound _ (by decide +kernel), rfl, rfl, allCheck_sound _ (by decide +kernel), rfl, rfl, by decide, rfl, by decide⟩

theorem witness_ContactDebounce :
    site.canonical ∧ (site.portRec .p2).mode = .contact ∧ (debouncing ⟨.shorted, 0, 19⟩).canonical
      ∧ ((debouncing ⟨.shorted, 0, 19⟩).portRec .p1).mode = .contact
      ∧ ((site.port .p2).input 32).candidate = none
      ∧ (((debouncing ⟨.shorted, 0, 19⟩).port .p1).input 7).candidate = some ⟨.shorted, 0, 19⟩
      ∧ ((debouncing ⟨.shorted, 0, 19⟩).point .p1 7).condition ≠ .alarm
      ∧ ((debouncing ⟨.normal, 0, 19⟩).port .p1).input 7 = ⟨.normal, some ⟨.normal, 0, 19⟩⟩
      ∧ (site.portRec .p1).mode = .serial :=
  ⟨site_sound.1, rfl, canonicalCheck_sound _ (by decide +kernel), rfl, rfl, rfl, by decide, rfl, rfl⟩

/-- P1 with a poll outstanding. -/
def polled (state : PortState) (missed : Nat) : PortLive :=
  { serialPort with state := state, missed := missed, answerTimer := some 1010 }

theorem witness_PollExchange :
    site.canonical ∧ (site.portRec .p2).mode = .contact ∧ (site.portRec .p1).mode = .serial ∧ (site.port .p1).pollTimer ≠ none
      ∧ (site.port .p1).answerTimer = none
      ∧ (withP1 (polled .supervised 1)).canonical ∧ ((withP1 (polled .supervised 1)).port .p1) = polled .supervised 1
      ∧ min 3 (1 + 1) < 3
      ∧ (withP1 (polled .resetting 2)).canonical ∧ ((withP1 (polled .resetting 2)).port .p1) = polled .resetting 2
      ∧ min 3 (2 + 1) = 3
      ∧ (withP1 (polled .starting 0)).canonical ∧ ((withP1 (polled .starting 0)).port .p1) = polled .starting 0
      ∧ (withP1 (polled .unsupervised 3)).canonical
      ∧ ((withP1 (polled .unsupervised 3)).port .p1) = polled .unsupervised 3 :=
  ⟨site_sound.1, rfl, rfl, by decide, rfl, canonicalCheck_sound _ (by decide +kernel), by decide +kernel, by decide,
    canonicalCheck_sound _ (by decide +kernel), by decide +kernel, by decide,
    canonicalCheck_sound _ (by decide +kernel), by decide +kernel, canonicalCheck_sound _ (by decide +kernel),
    by decide +kernel⟩

theorem witness_Resynchronisation :
    (withP1 { serialPort with resync := some ⟨[205], 1100⟩ }).canonical
      ∧ ((withP1 { serialPort with resync := some ⟨[205], 1100⟩ }).portRec .p1).mode = .serial
      ∧ ((withP1 { serialPort with resync := some ⟨[205], 1100⟩ }).port .p1).resync = some ⟨[205], 1100⟩
      ∧ site.canonical ∧ (site.port .p1).resync = none ∧ (site.portRec .p2).mode = .contact :=
  ⟨canonicalCheck_sound _ (by decide +kernel), rfl, by decide +kernel, site_sound.1, rfl, rfl⟩

/-- The fire while P1 is resynchronised, its point 105 not named: the list end ends the alarm of incident 1. -/
def relisted : State := fire.setPort .p1 { serialPort with resync := some ⟨[205], 1100⟩ }

theorem witness_Resynchronisation_ends :
    allSound relisted ∧ (relisted.portRec .p1).mode = .serial ∧ (relisted.port .p1).resync = some ⟨[205], 1100⟩
      ∧ (relisted.point .p1 105).condition = .alarm ∧ listCondition .fault ≠ (relisted.point .p1 105).condition
      ∧ listCondition .alarm ≠ (relisted.point .p1 125).condition ∧ relisted.unconfigured = false
      ∧ (relisted.panel.portPoints .p1 (· == .alarm)).filter (fun m =>
        !([205].contains m) && (relisted.point .p1 m).incident == 1) = [105] :=
  ⟨allCheck_sound _ (by decide +kernel), rfl, by decide +kernel, rfl, by decide +kernel, by decide +kernel, rfl,
    by decide +kernel⟩

theorem witness_PanelReset :
    site.free .service ∧ site.canonical ∧ 1 < effectiveLevel .service (hd .two)
      ∧ effectiveLevel .service (hd .one) ≤ 1 ∧ (site.portRec .p2).mode = .contact
      ∧ site.unconfigured = false ∧ (site.portRec .p1).mode = .serial ∧ (site.port .p1).state = .supervised
      ∧ (withP1 { serialPort with state := .resetting, resetTimer := some 1200 }).canonical
      ∧ ((withP1 { serialPort with state := .resetting, resetTimer := some 1200 }).port .p1).state = .resetting :=
  ⟨⟨rfl, rfl⟩, site_sound.1, by decide, by decide, rfl, rfl, rfl, rfl, canonicalCheck_sound _ (by decide +kernel),
    by decide +kernel⟩

/-! ### Stairs and floors -/

theorem witness_SharesFitAndCommit :
    ([(.a, 4), (.b, 1)] : List (Stair × Nat)) ≠ [] ∧ (([(.a, 4), (.b, 1)] : List (Stair × Nat)).map (·.1)).Nodup
      ∧ (∀ w ∈ ([(.a, 4), (.b, 1)] : List (Stair × Nat)), 1 ≤ w.2 ∧ w.2 ≤ 4) ∧ fire.canonical
      ∧ (([(.a, 4046), (.d, 4095)] : List (Stair × Nat)).map (·.1)).Nodup :=
  ⟨by decide, by decide, by decide, fire_sound.1, by decide⟩

/-- The site with another live record of stair A. -/
def withStairA (x : StairLive) : State := { site with stairs := site.stairs.setStair .a x }

theorem witness_ClearTime :
    site.stairRec .a = some ⟨0, 7, 2, 100, 10, 30, true⟩ ∧ site.desc.building.building = siteBuilding.building
      ∧ siteBuilding.building ≠ none ∧ site.free .host
      ∧ 4095 < (site.stairs.stair .a).load + 4046 ∧ (site.stairs.stair .a).saturated = false
      ∧ (withStairA ⟨10, true, false⟩).stairs.stair .a = ⟨10, true, false⟩ := by
  unfold State.free; decide +kernel

/-- The fire whose head, floor 1, holds three persons. -/
def fitting : State := fire.setFloor 1 { Floor.fresh with phase := .alert, occupancy := 3 }

theorem fitting_sound : allSound fitting := allCheck_sound _ (by decide +kernel)

theorem passes_witness : ¬ (fire.onStairs (drainAll fire)).passesHeadTest 1
    ∧ (fitting.onStairs (drainAll fitting)).passesHeadTest 1 := by
  unfold State.passesHeadTest; decide +kernel

theorem witness_DrainExpiry :
    State.reset.canonical ∧ State.reset.stairs.drainTimer = none
      ∧ site.canonical ∧ site.stairs.drainTimer ≠ none ∧ site.head = none
      ∧ fire.canonical ∧ fire.stairs.drainTimer ≠ none ∧ fire.head = some 1
      ∧ ¬ (fire.onStairs (drainAll fire)).passesHeadTest 1
      ∧ fitting.canonical ∧ fitting.head = some 1 ∧ (fitting.onStairs (drainAll fitting)).passesHeadTest 1 :=
  ⟨reset_sound.1, rfl, site_sound.1, by decide, rfl, fire_sound.1, by decide, rfl, passes_witness.1, fitting_sound.1,
    rfl, passes_witness.2⟩

/-- The fire with stair A compromised. -/
def smoky : State := { fire with stairs := fire.stairs.setStair .a ⟨50, false, true⟩ }

theorem smoky_sound : allSound smoky := allCheck_sound _ (by decide +kernel)

theorem witness_StairUseRule :
    fire.free .host ∧ effectiveLevel .host (hd .two) ≤ 2 ∧ fire.unconfigured = false ∧ allSound fire
      ∧ fire.stairRec .c = none ∧ (fire.stairRec .a).map (·.inUse) = some true
      ∧ (fire.stairs.stair .a).compromised = false
      ∧ (fire.floor 4).phase = .evacuate ∧ (fire.floor 4).route = .stairs [.a]
      ∧ (fire.stairRec .b).map (fun r => (r.inUse, r.low, r.high)) = some (false, 1, 6)
      ∧ (fire.floor 5).phase = .defend ∧ allSound smoky ∧ smoky.free .host
      ∧ (smoky.stairs.stair .a).compromised = true :=
  ⟨⟨rfl, rfl⟩, by decide, rfl, fire_sound, by decide +kernel, by decide +kernel, by decide +kernel, by decide +kernel,
    by decide +kernel, by decide +kernel, by decide +kernel, smoky_sound, ⟨rfl, rfl⟩, by decide +kernel⟩

/-- The fire with nothing queued, floor 1 out on stair A. -/
def unqueued : State :=
  { fire with evac :=
    { floors := (fire.evac.floors.put 1 { sentFloor [.a] with core := false }).put 6 { Floor.fresh with phase := .defend }
      queue := [] } }

theorem unqueued_sound : allSound unqueued := allCheck_sound _ (by decide +kernel)

theorem head_tests : unqueued.passesHeadTest 6 ∧ ¬ ({ unqueued with evac := { unqueued.evac with
    floors := unqueued.evac.floors.put 7 { sentFloor [.d] with occupancy := 999, core := false } } }).passesHeadTest 7 := by
  unfold State.passesHeadTest; decide +kernel

theorem witness_FloorCommands :
    fire.free .service ∧ fire.canonical ∧ 1 < effectiveLevel .service (hd .two)
      ∧ effectiveLevel .service (hd .one) ≤ 1 ∧ site.free .service ∧ site.canonical
      ∧ ¬ (site.regime.regime = .alarm ∨ site.regime.regime = .general)
      ∧ fire.unconfigured = false ∧ fire.regime.regime = .alarm ∧ fire.fc ≤ 8 ∧ 7 < fire.fc
      ∧ (fire.floor 7).phase = .evacuate ∧ (fire.floor 5).phase = .defend ∧ (fire.floor 6).phase = .alert
      ∧ general.free .service ∧ general.canonical ∧ general.regime.regime = .general
      ∧ (∃ i ∈ fire.regime.incidents, i.covers 3 = true) ∧ (∀ i ∈ fire.regime.incidents, i.covers 7 = false)
      ∧ fire.evac.queue ≠ [] ∧ unqueued.free .service ∧ unqueued.canonical ∧ unqueued.evac.queue = []
      ∧ unqueued.passesHeadTest 6 ∧ (∀ i ∈ unqueued.regime.incidents, i.covers 6 = false)
      ∧ (unqueued.floor 6).phase ≠ .alert
      ∧ (∀ e ∈ fire.evac.queue, e.floor ≠ 7) ∧ (∃ e ∈ fire.evac.queue, e.floor = 6) ∧ fire.head ≠ some 6 :=
  ⟨⟨rfl, rfl⟩, fire_sound.1, by decide, by decide, ⟨rfl, rfl⟩, site_sound.1, by decide, rfl, rfl, by decide +kernel,
    by decide +kernel, by decide +kernel, by decide +kernel, by decide +kernel, ⟨rfl, rfl⟩, general_sound.1, rfl,
    by decide +kernel, by decide +kernel, by decide, ⟨rfl, rfl⟩, unqueued_sound.1, rfl, head_tests.1, by decide +kernel,
    by decide +kernel, by decide, by decide, by decide⟩

/-! ### Cars -/

/-- The site on its way back with car 4 still faulted. -/
def faultedHomeward : State := { homeward with lifts := { fire.lifts with cars := fire.lifts.cars.put 3 quietCar } }

theorem witness_CarCommands :
    fire.free .service ∧ fire.unconfigured = false ∧ allSound fire ∧ 1 < effectiveLevel .service (hd .two)
      ∧ effectiveLevel .service (hd .one) ≤ 1 ∧ fire.lifts.cars.get 8 = none ∧ fire.regime.recalls = true
      ∧ fire.lifts.cars.get 3 = some recalledCar ∧ fire.carBank 3 = some (.one, ⟨0, 2, 0, 7⟩)
      ∧ recalledCar.position = some 5 ∧ recalledCar.awaiting = false
      ∧ (fire.lifts.cars.get 4).map (fun c => (c.state, c.position, c.awaiting)) = some (.faulted, some 7, false)
      ∧ fire.carBank 4 = some (.one, ⟨0, 2, 0, 7⟩)
      ∧ site.free .service ∧ site.unconfigured = false ∧ allSound site ∧ site.regime.recalls = false
      ∧ (site.lifts.cars.get 4).map (·.awaiting) = some true
      ∧ homeward.free .service ∧ allSound homeward ∧ homeward.regime.recalls = false
      ∧ allSound faultedHomeward
      ∧ (faultedHomeward.lifts.cars.get 4).map (·.state) = some .faulted :=
  ⟨⟨rfl, rfl⟩, rfl, fire_sound, by decide, by decide, by decide +kernel, by decide +kernel, by decide +kernel,
    by decide +kernel, rfl, rfl, by decide +kernel, by decide +kernel, ⟨rfl, rfl⟩, rfl, site_sound, by decide +kernel,
    by decide +kernel, ⟨rfl, rfl⟩, homeward_sound, by decide +kernel, allCheck_sound _ (by decide +kernel),
    by decide +kernel⟩

theorem witness_CarEvents :
    allSound fire ∧ fire.lifts.cars.get 8 = none ∧ fire.lifts.cars.get 3 = some recalledCar
      ∧ fire.carBank 3 = some (.one, ⟨0, 2, 0, 7⟩)
      ∧ recalledCar.state = .recalling ∧ recalledCar.run = some ⟨0, 8, 2, some 1590, none, 0, 95⟩
      ∧ 2 + (7 - 5) ≤ 8 ∧ ¬ (0 ≤ 8 ∧ 8 ≤ 7) ∧ recalledCar.silence ≠ none
      ∧ tableState .recalling true .normal true = some .faulted
      ∧ (fire.lifts.cars.get 5).map (fun c => (c.state, c.parked)) = some (.parked, some 0)
      ∧ allSound site ∧ (site.lifts.cars.get 4).map (fun c => (c.awaiting, c.silence)) = some (true, none)
      ∧ tableState .auto false .fireKey false = some .firefighter
      ∧ (site.lifts.cars.get 3).map (·.run) = some none :=
  ⟨fire_sound, by decide +kernel, by decide +kernel, by decide +kernel, rfl, rfl, by decide, by decide, by decide, rfl,
    by decide +kernel, site_sound, by decide +kernel, rfl, by decide +kernel⟩

/-- The fire whose car 3 has passed all the floors of its budget, its park confirm timer running. -/
def spent : State :=
  { fire with lifts := fire.lifts.setCar 3 { recalledCar with run := some ⟨0, 8, 8, some 1590, some 1100, 0, 95⟩ } }

theorem witness_CarEvents_spent :
    allSound spent ∧ (spent.lifts.cars.get 3).bind (·.run) = some ⟨0, 8, 8, some 1590, some 1100, 0, 95⟩
      ∧ 8 < 8 + (5 - 4) :=
  ⟨allCheck_sound _ (by decide +kernel), by decide +kernel, by decide⟩

/-! ### Doors -/

def stuckDoor : DoorLive :=
  { forcedDoor with state := .stuck, override := .none, cls := some 3, granted := none, feedback := .locked }

/-- The fire with the releasing door stuck, its slot given to none. -/
def jammed : State :=
  { fire with doors := { fire.doors with
    doors := fire.doors.doors.put 16 stuckDoor
    sections := fire.doors.sections.put 3 ⟨true, true, [13, 12], [], some 1040⟩ } }
    |> fun s => { s with doors := s.doors.setDoor 12 { forcedDoor with override := .none, cls := some 4 } }

theorem jammed_sound : allSound jammed := allCheck_sound _ (by decide +kernel)

/-- The fire with a door held locked. -/
def held : State :=
  { fire with doors := { fire.doors with
    doors := fire.doors.doors.put 12 { lockedDoor with override := .holdLocked }
    sections := fire.doors.sections.put 3 ⟨true, true, [13, 16], [], some 1040⟩ } }

theorem held_sound : allSound held := allCheck_sound _ (by decide +kernel)

theorem witness_DoorCommands :
    site.free .service ∧ site.unconfigured = false ∧ allSound site ∧ 1 < effectiveLevel .service (hd .two)
      ∧ effectiveLevel .service (hd .one) ≤ 1 ∧ site.doorOf ⟨7, 1⟩ = none ∧ site.doorOf ⟨3, 5⟩ = none
      ∧ site.doorOf ⟨3, 1⟩ = some 12 ∧ site.doors.doors.get 12 = some lockedDoor
      ∧ site.doorOf ⟨3, 2⟩ = some 13 ∧ site.doors.doors.get 13 = some forcedDoor ∧ site.doors.general = false
      ∧ fire.free .service ∧ fire.unconfigured = false ∧ allSound fire
      ∧ (fire.doors.doors.get 16).map (fun d => (d.state, d.override)) = some (.releasing, .none)
      ∧ jammed.free .service ∧ allSound jammed ∧ jammed.doors.doors.get 16 = some stuckDoor
      ∧ held.free .service ∧ allSound held ∧ held.doors.general = true
      ∧ (held.doors.doors.get 12).map (·.override) = some .holdLocked :=
  ⟨⟨rfl, rfl⟩, rfl, site_sound, by decide, by decide, by decide +kernel, by decide +kernel, by decide +kernel,
    by decide +kernel, by decide +kernel, by decide +kernel, rfl, ⟨rfl, rfl⟩, rfl, fire_sound, by decide +kernel, ⟨rfl, rfl⟩,
    jammed_sound, by decide +kernel, ⟨rfl, rfl⟩, held_sound, rfl, by decide +kernel⟩

/-- The forced doors of the site while a general demand stands. -/
def demanded : State := { site with doors := { site.doors with general := true } }

theorem witness_DoorCommands_demanded :
    allSound demanded ∧ demanded.free .service ∧ demanded.unconfigured = false ∧ demanded.doors.general = true
      ∧ demanded.doors.doors.get 13 = some forcedDoor :=
  ⟨allCheck_sound _ (by decide +kernel), ⟨rfl, rfl⟩, rfl, rfl, by decide +kernel⟩

theorem witness_DoorEvents :
    allSound fire ∧ fire.doors.nodes.get 47 = none ∧ fire.doors.nodes.get 3 = some ⟨some 1040, false⟩
      ∧ fire.doors.nodes.get 4 = some ⟨none, true⟩ ∧ fire.doorsOfFloor 4 = [16]
      ∧ (fire.doors.doors.get 16).map (fun d => (d.state, d.retryUsed, d.verify))
        = some (.releasing, false, some (.release, 1020))
      ∧ allSound site ∧ site.doorsOfFloor 4 = [16] ∧ (site.doors.doors.get 16).map (·.state) = some .released
      ∧ allSound jammed ∧ jammed.doorsOfFloor 4 = [16] ∧ (jammed.doors.doors.get 16).map (·.state) = some .stuck
      ∧ fire.doors.sections.get 8 = none
      ∧ (fire.doors.sections.get 3).map (fun x => (x.ok, x.grants, x.silence)) = some (true, [13, 16], some 1040)
      ∧ (fire.doors.sections.get 4).map (fun x => (x.ok, x.silence)) = some (false, none)
      ∧ allSound homeward ∧ homeward.doors.relockTimer ≠ none ∧ homeward.regime.regime = .standdown
      ∧ site.doors.relockTimer = none :=
  ⟨fire_sound, by decide +kernel, by decide +kernel, by decide +kernel, by decide +kernel, by decide +kernel, site_sound,
    by decide +kernel, by decide +kernel, jammed_sound, by decide +kernel, by decide +kernel, by decide +kernel,
    by decide +kernel, by decide +kernel, homeward_sound, by decide, rfl, rfl⟩

/-- The fire with the door of floor 4 stuck and a slot free; and with both doors of floor 3 stuck and one slot free. -/
def loosened : State :=
  { fire with doors := { fire.doors with
    doors := fire.doors.doors.put 16 stuckDoor
    sections := fire.doors.sections.put 3 ⟨true, true, [13], [12], some 1040⟩ } }

def twiceJammed : State :=
  { fire with doors := { fire.doors with
    doors := (fire.doors.doors.put 12 stuckDoor).put 13 stuckDoor
    sections := fire.doors.sections.put 3 ⟨true, true, [16], [], some 1040⟩ } }

theorem witness_DoorEvents_several :
    allSound fire ∧ fire.doorsOfFloor 3 = [12, 13] ∧ fire.doors.nodes.get 3 ≠ none
      ∧ (fire.doors.doors.get 12).map (·.state) = some .waiting ∧ (fire.doors.doors.get 13).map (·.state) = some .released
      ∧ allSound loosened ∧ loosened.doorsOfFloor 4 = [16] ∧ loosened.doorSection 16 = 3
      ∧ (loosened.doors.sections.get 3).map (fun x => (x.grants.length, loosened.effectiveCapacity 3 x)) = some (1, 2)
      ∧ (jammed.doors.sections.get 3).map (fun x => (x.grants.length, jammed.effectiveCapacity 3 x)) = some (2, 2)
      ∧ allSound twiceJammed ∧ twiceJammed.doorsOfFloor 3 = [12, 13]
      ∧ (twiceJammed.doors.doors.get 12).map (·.state) = some .stuck
      ∧ (twiceJammed.doors.doors.get 13).map (·.state) = some .stuck :=
  ⟨fire_sound, by decide +kernel, by decide +kernel, by decide +kernel, by decide +kernel,
    allCheck_sound _ (by decide +kernel), by decide +kernel, by decide +kernel, by decide +kernel, by decide +kernel,
    allCheck_sound _ (by decide +kernel), by decide +kernel, by decide +kernel, by decide +kernel⟩

/-- R128, R135 (notes/assumptions/42.md): of two stuck doors found unlocked the first by letter takes the free slot. -/
theorem test_two_stuck :
    next (exec (.nodeAnswer 3 ⟨true, true, false, false⟩) twiceJammed) (fun t =>
      (t.doors.doors.get 12).map (·.state) = some .released) = true := by decide +kernel

/-- The releasing door on its second try; and the site with a lock verify timer running, section 4 about to fall silent, and
one door to floor 3. -/
def retried : State :=
  { fire with doors := fire.doors.setDoor 16 { forcedDoor with
    state := .releasing, override := .none, cls := some 3, feedback := .locked, retryUsed := true
    verify := some (.release, 1020) } }

def locking : State :=
  { State.reset with
    desc := { State.reset.desc with building := { siteBuilding with
      doors := ⟨[(28, ⟨4, false⟩)]⟩, cars := .empty } }
    doors := { State.reset.doors with
               doors := ⟨[(28, { lockedDoor with feedback := .unknown, verify := some (.lock, 30) })]⟩
               sections := ⟨[(3, ⟨true, true, [], [], some 50⟩), (4, ⟨false, false, [], [], some 50⟩)]⟩
               nodes := ⟨[(7, ⟨some 50, false⟩)]⟩ } }

/-- The relock that ends in NORMAL, with a suspended tenant program. -/
theorem witness_DoorEvents_relock :
    allSound returning ∧ returning.doors.relockTimer ≠ none ∧ returning.regime.regime = .standdown
      ∧ (∀ f, f < returning.fc → (returning.floor f).phase = .normal)
      ∧ returning.audio.progs.get 1 = some suspendedProg :=
  ⟨returning_sound, by decide, rfl, fun _ _ => rfl, by decide +kernel⟩

/-- The last door of a floor, which can be taken away. -/
theorem witness_DoorLoads_last :
    locking.takesLoad .host (hd .two) ∧ allSound locking ∧ locking.doorsOfFloor 7 = [doorNumber 7 .a]
      ∧ (locking.doors.doors.get (doorNumber 7 .a)).map (·.state) = some .locked ∧ locking.serves .a 7 = true :=
  ⟨by unfold State.takesLoad State.free; decide +kernel, allCheck_sound _ (by decide +kernel), by decide +kernel,
    by decide +kernel, by decide +kernel⟩

theorem witness_DoorEvents_timers :
    allSound retried ∧ (retried.doors.doors.get 16).map (fun d => (d.state, d.retryUsed, d.verify))
        = some (.releasing, true, some (.release, 1020))
      ∧ allSound locking ∧ locking.doorsOfFloor 7 = [28]
      ∧ (locking.doors.doors.get 28).map (fun d => (d.state, d.verify)) = some (.locked, some (.lock, 30))
      ∧ (locking.doors.sections.get 4).map (fun x => (x.ok, x.silence)) = some (false, some 50) :=
  ⟨allCheck_sound _ (by decide +kernel), by decide +kernel, allCheck_sound _ (by decide +kernel), by decide +kernel,
    by decide +kernel, by decide +kernel⟩

/-! ### Announcements -/

/-- The site with eight tenant entries, programs 1 to 8. -/
def tenanted : State :=
  { site with audio := { AudioUnit.fresh with
    progs := ⟨(List.range 8).map fun n => (n + 1, { tenantProg with state := .waiting, engine := none, phraseTimer := none })⟩
    tenants := (List.range 8).map fun n => { tenantOf1 with prog := n + 1 } } }

theorem tenanted_sound : allSound tenanted := allCheck_sound _ (by decide +kernel)

theorem witness_Announcements :
    site.free .host ∧ site.unconfigured = false ∧ allSound site ∧ site.audio.unplaced = []
      ∧ fire.free .host ∧ allSound fire ∧ fire.audio.unplaced = [] ∧ fire.regime.regime ≠ .normal
      ∧ site.regime.regime = .normal ∧ ([7, 0] : List Nat).Nodup
      ∧ (∀ f ∈ [7, 0], f < site.fc) ∧ (¬ ∀ f ∈ [8], f < site.fc)
      ∧ (∀ p ∈ List.replicate 16 511, site.desc.building.phrases.get p ≠ none)
      ∧ site.desc.building.phrases.get 32 = none
      ∧ allSound tenanted ∧ tenanted.free .host ∧ tenanted.audio.unplaced = [] ∧ tenanted.audio.tenants.length = 8
      ∧ site.audio.tenants.length < 8 ∧ site.audio.progs.get 2 = none ∧ site.audio.progs.get 1 ≠ none
      ∧ (∀ e ∈ site.audio.tenants, e.prog ≠ 2) ∧ tenantOf1 ∈ site.audio.tenants ∧ tenantOf1.prog = 1
      ∧ effectiveLevel .host (hd .three) = 3 ∧ effectiveLevel .host (hd .two) ≠ 3 ∧ (hd .three).station = 1
      ∧ tenantOf1.station = 1 :=
  ⟨⟨rfl, rfl⟩, rfl, site_sound, by decide +kernel, ⟨rfl, rfl⟩, fire_sound, by decide +kernel, by decide, rfl, by decide,
    by decide +kernel, by decide +kernel, by decide +kernel, by decide +kernel, tenanted_sound, ⟨rfl, rfl⟩, by decide +kernel,
    by decide +kernel, by decide, by decide +kernel, by decide +kernel, by decide, by decide, rfl, rfl, by decide, rfl,
    rfl⟩

/-- The site with another program 1 on floor 5, its tenant entry kept. -/
def withProg (p : Prog) : State := { site with audio := { site.audio with progs := ⟨[(1, p)]⟩ } }

/-- CANCEL_ANNOUNCE from another station at level 3, and of a program that its expiry has marked. -/
theorem witness_Announcements_cancel :
    effectiveLevel .host ⟨2, .three, 65⟩ = 3 ∧ (⟨2, .three, 65⟩ : Header).station ≠ tenantOf1.station
      ∧ site.audio.progs.get 1 = some tenantProg ∧ tenantProg.expiring = false
      ∧ allSound (withProg { tenantProg with expiring := true })
      ∧ (withProg { tenantProg with expiring := true }).audio.progs.get 1 = some { tenantProg with expiring := true }
      ∧ (withProg { tenantProg with expiring := true }).audio.unplaced = [] :=
  ⟨rfl, by decide, by decide +kernel, rfl, allCheck_sound _ (by decide +kernel), by decide +kernel, by decide +kernel⟩

/-- A homeward site whose floor 3 hears an all-clear in its last pass. -/
def lastPass : State :=
  { homeward with audio := { AudioUnit.fresh with
    progs := ⟨[(1, { tenantProg with kind := .allclear, phrases := [30], times := 2, remaining := some 1 })]⟩
    floors := ⟨[(3, { FloorEntry.fresh with content := some ⟨.allclear, [30]⟩, prog := some 1, connected := true })]⟩ } }

/-- A program of one phrase, so that its phrase end is the end of a pass. -/
def shortProg : Prog := { tenantProg with phrases := [30] }

theorem witness_PassEvents :
    site.audio.engineProg 4 = none
      ∧ allSound site ∧ site.audio.unplaced = [] ∧ site.audio.engineProg 2 = some (1, tenantProg)
      ∧ tenantProg.expiring = false ∧ ¬ (tenantProg.phrases.length ≤ tenantProg.index + 1)
      ∧ tenantProg.state = .playing
      ∧ allSound (withProg { tenantProg with state := .yielding })
      ∧ (withProg { tenantProg with state := .yielding }).audio.engineProg 2
        = some (1, { tenantProg with state := .yielding })
      ∧ allSound (withProg shortProg) ∧ (withProg shortProg).audio.engineProg 2 = some (1, shortProg)
      ∧ shortProg.phrases.length ≤ shortProg.index + 1 ∧ 1 < shortProg.remaining.getD 0 ∧ 0 < shortProg.gap
      ∧ allSound (withProg { shortProg with gap := 0, times := 0 })
      ∧ (withProg { shortProg with gap := 0, times := 0 }).audio.engineProg 2
        = some (1, { shortProg with gap := 0, times := 0 })
      ∧ allSound (withProg { tenantProg with expiring := true })
      ∧ allSound lastPass ∧ lastPass.audio.unplaced = []
      ∧ (lastPass.audio.engineProg 2).map (fun x => (x.2.kind, x.2.remaining)) = some (.allclear, some 1)
      ∧ (lastPass.audio.floor 3).prog = some 1 ∧ (lastPass.floor 3).phase = .standdown :=
  ⟨by decide +kernel, site_sound, by decide +kernel, by decide +kernel, rfl, by decide, rfl,
    allCheck_sound _ (by decide +kernel), by decide +kernel, allCheck_sound _ (by decide +kernel), by decide +kernel,
    by decide, by decide, by decide, allCheck_sound _ (by decide +kernel), by decide +kernel,
    allCheck_sound _ (by decide +kernel), allCheck_sound _ (by decide +kernel), by decide +kernel, by decide +kernel,
    by decide +kernel, by decide +kernel⟩

/-- The last all-clear before the return to NORMAL, with a suspended tenant program to resume. -/
def allClear : State :=
  { lastPass with
    regime := { lastPass.regime with relockComplete := true }
    doors := { site.doors with general := false }
    audio := { lastPass.audio with
      progs := lastPass.audio.progs.put 2 { suspendedProg with phrases := [31] }, tenants := [{ tenantOf1 with prog := 2 }] } }

theorem witness_PassEvents_ends :
    allSound (withProg { shortProg with gap := 0, state := .yielding })
      ∧ (withProg { shortProg with gap := 0, state := .yielding }).audio.engineProg 2
        = some (1, { shortProg with gap := 0, state := .yielding })
      ∧ allSound allClear ∧ (allClear.audio.engineProg 2).map (·.2.kind) = some .allclear
      ∧ allClear.regime.regime = .standdown
      ∧ (match exec (.phraseEnd 2) allClear with | .next t => t.regime.regime | _ => .alarm) = .normal :=
  ⟨allCheck_sound _ (by decide +kernel), by decide +kernel, allCheck_sound _ (by decide +kernel), by decide +kernel, rfl,
    by decide +kernel⟩

/-- Program 1 in its gap. -/
def inGap : State :=
  withProg { tenantProg with state := .gap, engine := none, phraseTimer := none, gapTimer := some 1100 }

theorem witness_PassEvents_timers :
    allSound site ∧ (∀ p, site.audio.progs.get 1 = some p → p.state ≠ .gap)
      ∧ allSound inGap ∧ (inGap.audio.progs.get 1).map (·.state) = some .gap
      ∧ tenantOf1.timer ≠ none ∧ tenantOf1 ∈ site.audio.tenants ∧ site.audio.progs.get 1 = some tenantProg
      ∧ tenantOf1 ∈ inGap.audio.tenants ∧ inGap.audio.unplaced = []
      ∧ (∀ e ∈ site.audio.tenants, e.prog = 2 → e.timer = none)
      ∧ (site.audio.floor 47).fault = false
      ∧ (({ site with audio := site.audio.setFloor 47 { FloorEntry.fresh with fault := true } }).audio.floor 47).fault
        = true :=
  ⟨site_sound, fun p e => by cases (show some tenantProg = some p from e); decide,
    allCheck_sound _ (by decide +kernel), by decide +kernel, by decide, by decide, by decide +kernel, by decide,
    by decide +kernel, by decide, by decide +kernel, by decide +kernel⟩

/-! ### Invariants -/

def routeCheck (s : State) (f : Nat) (x : Floor) : Bool :=
  if x.phase = .evacuate then match x.route with
    | .empty => false
    | .stairs l => !l.isEmpty && l.all fun y => s.available y && s.serves y f
    | .direct => s.directExit f
  else x.route == .empty

theorem fire_routes : fire.routesSound := by
  have h : ∀ f, routeCheck fire f (fire.floor f) = true := fun f =>
    read_all (d := Floor.fresh) (P := fun f x => routeCheck fire f x = true) (by decide +kernel) (fun _ => rfl) f
  refine ⟨fun _ => by decide +kernel, fun i hi f h1 h2 _ => ?_, fun f e => ?_, fun f e => ?_⟩
  · cases (show i = incident1 from by simpa using (show i ∈ [incident1] from hi))
    have : f = 3 := by simp only [incident1] at h1 h2; omega
    subst this
    exact .inl (by decide +kernel)
  · have := h f
    simp only [routeCheck, e, if_true] at this
    split at this <;> simp_all
  · simpa [routeCheck, e] using h f

/-- The fire with door 13 waiting ahead of door 12. -/
def twoWaiting : State :=
  { fire with doors := { fire.doors with
      doors := fire.doors.doors.put 13 { forcedDoor with state := .waiting, override := .none, cls := some 1, granted := none }
      sections := fire.doors.sections.put 3 ⟨true, true, [16], [13, 12], some 1040⟩ } }

theorem twoWaiting_sound : allSound twoWaiting := allCheck_sound _ (by decide +kernel)

theorem twoWaiting_demand : twoWaiting.demandSound :=
  ⟨by decide +kernel, by decide +kernel, by decide +kernel, get_all (P := fun _ (d : DoorLive) =>
    (twoWaiting.doors.general = true → d.override ≠ .holdLocked → d.state ≠ .locked)
      ∧ (twoWaiting.doors.general = false → d.state ≠ .locked → d.override = .forceReleased)) (by decide +kernel)⟩

theorem twoWaiting_recent : twoWaiting.doorTimesRecent :=
  get_all (P := fun _ (d : DoorLive) => (∀ x, d.demanded = some x → (twoWaiting.now - x).toNat < 2 ^ 31)
      ∧ ∀ x, d.granted = some x → (twoWaiting.now - x).toNat < 2 ^ 31) fun r hr => by
    revert r
    have h : ∀ r ∈ twoWaiting.doors.doors.rows, (twoWaiting.now - r.2.demanded.getD twoWaiting.now).toNat < 2 ^ 31
        ∧ (twoWaiting.now - r.2.granted.getD twoWaiting.now).toNat < 2 ^ 31 := by decide +kernel
    intro r hr
    exact ⟨fun x e => by have := (h r hr).1; rwa [e] at this, fun x e => by have := (h r hr).2; rwa [e] at this⟩

theorem twoWaiting_ordered : twoWaiting.doorListsOrdered :=
  get_all (P := fun _ (r : SectionLive) => r.waiting.Pairwise _ ∧ r.grants.Pairwise _) (by decide +kernel)

/-- What the second clauses of the statements on the queue, the cars, the doors and the programs take beside allSound. -/
theorem witness_Invariants_second :
    fire.routesSound ∧ allSound twoWaiting ∧ twoWaiting.demandSound ∧ twoWaiting.doorTimesRecent ∧ twoWaiting.doorListsOrdered
      ∧ (∃ t, step { twoWaiting with pending := [.doorLoopPoll] } = .next t)
      ∧ allSound returning ∧ returning.recallsSound ∧ returning.regime.recalls = false ∧ returning.tenantsHeld
      ∧ returning.regime.regime ≠ .normal ∧ ∃ t, step { returning with pending := [.relockHoldExpiry] } = .next t :=
  ⟨fire_routes, twoWaiting_sound, twoWaiting_demand, twoWaiting_recent, twoWaiting_ordered, ⟨_, rfl⟩, returning_sound,
    fun _ => get_all (P := fun _ (c : CarLive) => c.state ≠ .recalling ∧ c.state ≠ .parked) (by decide +kernel),
    by decide +kernel,
    fun _ => get_all (P := fun n (p : Prog) => p.kind = .tenant → p.state = .suspended
        ∧ ∀ f, (returning.audio.floor f).prog ≠ some n) fun r hr => by
      have h : ∀ r ∈ returning.audio.progs.rows, r.2.state = .suspended := by decide +kernel
      exact fun _ => ⟨h r hr, fun f e => by cases (show (none : Option Nat) = some r.1 from e)⟩,
    by decide, _, rfl⟩

/-- What the statements about every step take, from TablesStayCanonical to AudioStaysSound: a sound state, and a step from it
that answers a next state. -/
theorem witness_Invariants :
    allSound fire ∧ fire.queuesSound ∧ fire.loadsSound ∧ fire.buildingSound ∧ fire.rangesKept
      ∧ ∃ t, step { fire with pending := [.general .host (hd .two) (some ())] } = .next t :=
  ⟨fire_sound, ⟨fun l => by cases l <;> decide, fun r hr => by cases hr⟩, fun x => by cases x <;> decide +kernel,
    ⟨fun b e => by
        cases (show siteBuilding.building = some b from e)
        unfold Building.inRange; decide,
      fun b e => by cases e⟩,
    ⟨fire_sound.2.2.2.2.2.2.2, rangesCheck_sound _ (by decide)⟩, _, rfl⟩

end Sys2Proof.Tests
end

/-! PROOFS. Which operations leave the description as it is: all that follows an alarm, a change of a floor, a stair, a
car, a door or a point. Only loads write the description (R1). -/

namespace Sys2Proof.Machine

/-- Steps that each leave the description leave it together. -/
theorem foldl_desc {α : Type} {f : State → α → State} (h : ∀ s x, (f s x).desc = s.desc) :
    ∀ (l : List α) (s : State), (l.foldl f s).desc = s.desc
  | [], _ => rfl
  | x :: rest, s => (foldl_desc h rest (f s x)).trans (h s x)

/-! ## Floors and the queue -/

@[simp] theorem State.changeFloor_desc (s : State) (f : Nat) (g : Floor → Floor) :
    (s.changeFloor f g).desc = s.desc := rfl

@[simp] theorem State.sendFloor_desc (s : State) (f : Nat) (core : Bool) : (s.sendFloor f core).desc = s.desc := by
  simp only [State.sendFloor, apply_ite State.desc, State.changeFloor_desc, State.onStairs_desc, ite_self]

@[simp] theorem State.promote_desc (s : State) (f : Nat) (core : Bool) (cause : PhaseCause) :
    (s.promote f core cause).desc = s.desc :=
  State.sendFloor_desc (s.leaveQueue f) f core

@[simp] theorem headTests_desc : ∀ (k : Nat) (s : State), (headTests k s).desc = s.desc
  | 0, _ => rfl
  | k + 1, s => by
    have chain (f : Nat) (cause : PhaseCause) : (headTests k (s.promote f false cause)).desc = s.desc :=
      (headTests_desc k _).trans (s.promote_desc f false cause)
    unfold headTests
    split
    · rfl
    · split
      · exact chain _ _
      · split
        · exact chain _ _
        · split
          · exact chain _ _
          · rfl

@[simp] theorem State.headTest_desc (s : State) : s.headTest.desc = s.desc := headTests_desc _ s

@[simp] theorem State.headTestIfNew_desc (s : State) (before : Option Nat) :
    (s.headTestIfNew before).desc = s.desc := by
  unfold State.headTestIfNew
  split <;> simp

@[simp] theorem State.setOccupancy_desc (s : State) (f n : Nat) : (s.setOccupancy f n).desc = s.desc := by
  unfold State.setOccupancy
  dsimp only
  split <;> simp

/-! ## Core processing (R78, R79) -/

@[simp] theorem coreFloor_desc (s : State) (f : Nat) : (coreFloor s f).desc = s.desc := by
  unfold coreFloor
  dsimp only
  split
  · split <;> rfl
  · exact s.promote_desc f true .core

@[simp] theorem alertFloor_desc (s : State) (f : Nat) : (alertFloor s f).desc = s.desc := rfl

@[simp] theorem State.alertOthers_desc (s : State) (first : Nat) (core : List Nat) (regime : Regime) :
    (s.alertOthers first core regime).desc = s.desc := by
  have alerted (fs : List Nat) : (fs.foldl alertFloor s).desc = s.desc := foldl_desc alertFloor_desc fs s
  unfold State.alertOthers
  cases regime with
  | normal | standdown => dsimp only; split <;> exact alerted _
  | alarm => rfl
  | general => exact foldl_desc (fun t f => t.promote_desc f false .general) _ s

@[simp] theorem State.coreProcess_desc (s : State) (first count : Nat) (regime : Regime) :
    (s.coreProcess first count regime).desc = s.desc := by
  simp [State.coreProcess, foldl_desc coreFloor_desc]

/-! ## Stairs (R101 to R107) -/

@[simp] theorem stripFloor_desc (x : Stair) (acc : State × Nat × Nat) (f : Nat) :
    (stripFloor x acc f).1.desc = acc.1.desc := by
  unfold stripFloor
  dsimp only
  split
  · split
    · split <;> rfl
    · rfl
  · rfl

theorem stripFloors_desc (x : Stair) : ∀ (fs : List Nat) (acc : State × Nat × Nat),
    (fs.foldl (stripFloor x) acc).1.desc = acc.1.desc
  | [], _ => rfl
  | f :: rest, acc => (stripFloors_desc x rest _).trans (stripFloor_desc x acc f)

@[simp] theorem State.stairUnavailable_desc (s : State) (x : Stair) (cause : StairCause) :
    (s.stairUnavailable x cause).desc = s.desc := by
  simp [State.stairUnavailable, stripFloors_desc]

@[simp] theorem State.stairAvailable_desc (s : State) (x : Stair) : (s.stairAvailable x).desc = s.desc := by
  simp [State.stairAvailable, foldl_desc fun (t : State) f => t.promote_desc f false .stair]

@[simp] theorem State.compromise_desc (s : State) (x : Stair) (incident : Nat) :
    (s.compromise x incident).desc = s.desc := by
  unfold State.compromise
  dsimp only
  split
  · rfl
  · split
    · exact State.stairUnavailable_desc _ x .compromised
    · rfl

@[simp] theorem State.afterStairChange_desc (s : State) (x : Stair) (was : Bool) :
    (s.afterStairChange x was).desc = s.desc := by
  unfold State.afterStairChange
  split
  · exact s.stairUnavailable_desc x .outOfUse
  · split
    · exact s.stairAvailable_desc x
    · rfl

@[simp] theorem State.freshStair_desc (s : State) (x : Stair) : (s.freshStair x).desc = s.desc := rfl
@[simp] theorem State.freshBank_desc (s : State) (k : Bank) : (s.freshBank k).desc = s.desc := rfl

/-! ## The regime (R53, R77) -/

@[simp] theorem State.enterGeneral_desc (s : State) : s.enterGeneral.desc = s.desc := by
  simp [State.enterGeneral, foldl_desc fun (t : State) f => t.promote_desc f false .general]

@[simp] theorem State.standFloorsDown_desc (s : State) : s.standFloorsDown.desc = s.desc := by
  simp [State.standFloorsDown, foldl_desc fun (t : State) f => show (standFloorDown t f).desc = t.desc from rfl]

@[simp] theorem State.evacRegimeNotice_desc (s : State) (old new : Regime) :
    (s.evacRegimeNotice old new).desc = s.desc := by
  unfold State.evacRegimeNotice
  split <;> simp

@[simp] theorem State.setRegime_desc (s : State) (new : Regime) (cause : RegimeCause) :
    (s.setRegime new cause).desc = s.desc := by
  simp [State.setRegime, State.regimeNotice]

/-! ## Alarms (R20, R56 to R58) -/

@[simp] theorem State.drillIntoLive_desc (s : State) : s.drillIntoLive.desc = s.desc := rfl

@[simp] theorem State.thresholdTest_desc (s : State) : s.thresholdTest.desc = s.desc := by
  unfold State.thresholdTest
  split <;> simp

@[simp] theorem State.kindEffects_desc (s : State) (kind : IncidentKind) (number : Nat) :
    (s.kindEffects kind number).desc = s.desc := by
  cases kind <;> simp [State.kindEffects]

@[simp] theorem State.listNotice_desc (s : State) : s.listNotice.desc = s.desc := rfl

@[simp] theorem State.openIncident_desc (s : State) (r : Result) : (s.openIncident r).desc = s.desc := by
  simp only [State.openIncident, State.thresholdTest_desc, State.listNotice_desc, State.kindEffects_desc,
    State.coreProcess_desc, apply_ite State.desc, State.setRegime_desc, State.report_desc, State.contribute_desc,
    State.changeRegime_desc, State.drillIntoLive_desc, ite_self]

@[simp] theorem State.notRecorded_desc (s : State) (r : Result) : (s.notRecorded r).desc = s.desc := by
  unfold State.notRecorded
  dsimp only
  split <;> simp

@[simp] theorem State.extendIncident_desc (s : State) (number : Nat) (r : Result) :
    (s.extendIncident number r).desc = s.desc := rfl

@[simp] theorem State.takeResult_desc (s : State) (r : Result) : (s.takeResult r).desc = s.desc := by
  unfold State.takeResult
  split
  · rfl
  · split <;> simp

@[simp] theorem State.handAlarm_desc (s : State) (p : Port) (n : Nat) : (s.handAlarm p n).desc = s.desc := by
  unfold State.handAlarm
  split
  · rfl
  · split <;> simp

@[simp] theorem State.passAlarms_desc (s : State) : s.passAlarms.desc = s.desc :=
  foldl_desc (fun t (x : Port × Nat) => t.handAlarm_desc x.1 x.2) _ s

@[simp] theorem State.alarmEnded_desc (s : State) (p : Port) (n : Nat) : (s.alarmEnded p n).desc = s.desc := by
  unfold State.alarmEnded
  dsimp only
  split
  · rfl
  · split
    · rfl
    · split <;> rfl

@[simp] theorem State.handEnded_desc (s : State) (p : Port) (n : Nat) : (s.handEnded p n).desc = s.desc := by
  unfold State.handEnded
  split <;> simp

@[simp] theorem State.zoneRevised_desc (s : State) (z : Nat) (revision : BitVec 16) :
    (s.zoneRevised z revision).desc = s.desc := rfl

/-! ## Points and ports (R20, R33) -/

@[simp] theorem State.changePoint_desc (s : State) (p : Port) (n : Nat) (new : Condition) (short : Bool) :
    (s.changePoint p n new short).desc = s.desc := by
  unfold State.changePoint
  dsimp only
  split <;> simp

@[simp] theorem State.clearPoints_desc (s : State) (p : Port) (ns : List Nat) : (s.clearPoints p ns).desc = s.desc :=
  foldl_desc (fun t n => t.changePoint_desc p n .normal false) ns s

@[simp] theorem State.startPort_desc (s : State) (p : Port) : (s.startPort p).desc = s.desc := by
  unfold State.startPort
  split <;> rfl

@[simp] theorem State.changeMode_desc (s : State) (p : Port) : (s.changeMode p).desc = s.desc := by
  simp [State.changeMode]

end Sys2Proof.Machine

/-! PROOFS. R1: under what level and regime each description request is taken, what it is refused, and the one store group
it changes. A load is looked at in two halves: the conditions that stand before its body (NormalLoad, StairUseLoad,
MapLoad) and what it can answer once they are met (LoadOutcome). -/

namespace Sys2Proof.Machine

/-! ## The store group a load changes -/

/-- Of the description, only a store group and its keeping state differ, and for the MAP group the fallback indication
(R1, R13). -/
def State.onlyGroup (s t : State) : StoreGroup → Prop
  | .building => s.onlyBuilding t
  | .input => s.onlyInput t
  | .map => { t.desc with map := s.desc.map, keepMap := s.desc.keepMap, fallback := s.desc.fallback } = s.desc

theorem State.onlyGroup_self (s : State) (g : StoreGroup) : s.onlyGroup s g := by cases g <;> rfl

theorem State.onlyGroup_of_desc {s t u : State} {g : StoreGroup} (h : s.onlyGroup u g) (hd : t.desc = u.desc) :
    s.onlyGroup t g := by
  cases g <;> · simp only [State.onlyGroup, State.onlyBuilding, State.onlyInput, hd]; exact h

theorem State.onlyGroup_changeBuilding (s : State) (f : BuildingGroup → BuildingGroup) :
    s.onlyGroup (s.changeBuilding f) .building := rfl

theorem State.onlyGroup_changeInput (s : State) (f : InputGroup → InputGroup) :
    s.onlyGroup (s.changeInput f) .input := rfl

theorem State.onlyGroup_changeMap (s : State) (f : MapGroup → MapGroup) : s.onlyGroup (s.changeMap f) .map := rfl

/-- The write of a group's record to the store stays within the group. -/
theorem State.onlyGroup_writeThrough {s t : State} {g : StoreGroup} (h : s.onlyGroup t g) (w : StoreWrite) :
    s.onlyGroup (t.writeThrough g w).1 g := by
  have kept (k : Keeping) (hd : (t.writeThrough g w).1.desc = t.desc.setKeeping g k) :
      s.onlyGroup (t.writeThrough g w).1 g := by
    cases g <;> · simp only [State.onlyGroup, State.onlyBuilding, State.onlyInput, hd]; exact h
  obtain ⟨_, _, hd, _⟩ | ⟨_, _, hd, _⟩ := t.writeThrough_cases g w
  · exact kept .kept hd
  · exact kept .unkept hd

/-! ## What a load can answer once its conditions are met -/

/-- An answer to a load of a group: no other group has changed, and it is not refused for any of the barred reasons. -/
structure LoadOutcome (s : State) (g : StoreGroup) (barred : List Reason) (a : State × Answer) : Prop where
  frame  : s.onlyGroup a.1 g
  reason : ∀ r ∈ barred, a.2.verdict ≠ .refused r

namespace LoadOutcome

variable {s t : State} {g : StoreGroup} {barred : List Reason} {w : StoreWrite} {clamped : Bool}
  {body : List (List Byte)}

theorem of_refused {r : Reason} (h : r ∉ barred) : LoadOutcome s g barred (s, ⟨.refused r, body⟩) :=
  ⟨s.onlyGroup_self g, fun _ hq e => h (Verdict.refused.inj e ▸ hq)⟩

theorem of_refuse {r : Reason} (h : r ∉ barred) : LoadOutcome s g barred (refuse s r) := of_refused h

theorem of_done {notKept : Bool} (h : s.onlyGroup t g) :
    LoadOutcome s g barred (t, ⟨.done clamped notKept, body⟩) := ⟨h, nofun⟩

theorem of_loaded (h : s.onlyGroup t g) : LoadOutcome s g barred (loaded t g w clamped body) :=
  of_done (State.onlyGroup_writeThrough h w)

/-- A load of the BUILDING group: whatever else it does, of the description it writes that group alone. -/
theorem of_building {new : BuildingGroup} (hd : t.desc = { s.desc with building := new }) :
    LoadOutcome s .building barred (loaded t .building w clamped body) :=
  of_loaded (State.onlyGroup_of_desc (s.onlyGroup_changeBuilding fun _ => new) hd)

theorem of_ite {p : Prop} [Decidable p] {a b : State × Answer} (ha : LoadOutcome s g barred a)
    (hb : LoadOutcome s g barred b) : LoadOutcome s g barred (if p then a else b) := by
  split
  · exact ha
  · exact hb

end LoadOutcome

/-! ## The loads of the BUILDING group (R4 to R11, R102) -/

theorem State.loadBuilding_outcome (s : State) (w : StoreWrite) (x : BuildingLoad) :
    LoadOutcome s .building [.level] (s.loadBuilding w x) := by
  have passed (t : State) (h : s.onlyGroup t .building) :
      s.onlyGroup (t.writeThrough .building w).1.passAlarms .building :=
    State.onlyGroup_of_desc (State.onlyGroup_writeThrough h w) (State.passAlarms_desc _)
  unfold State.loadBuilding
  dsimp only
  split
  · exact .of_done (passed _ rfl)
  · exact .of_building rfl

theorem State.loadFloor_outcome (s : State) (w : StoreWrite) (x : FloorLoad) :
    LoadOutcome s .building [.level] (s.loadFloor w x) := by
  unfold State.loadFloor
  split
  · exact .of_refuse (by decide)
  · split
    · exact .of_building rfl
    · dsimp only
      split
      · exact .of_building rfl
      · exact .of_building (State.setOccupancy_desc _ _ _)

theorem State.removeStair_outcome (s : State) (w : StoreWrite) (st : Stair) :
    LoadOutcome s .building [.level] (s.removeStair w st) := by
  unfold State.removeStair
  split
  · exact .of_refuse (by decide)
  · exact .of_building (State.afterStairChange_desc _ _ _)

theorem State.putStair_outcome (s : State) (w : StoreWrite) (st : Stair) (f : StairFields) :
    LoadOutcome s .building [.level] (s.putStair w st f) := by
  unfold State.putStair
  dsimp only
  split <;> exact .of_building (State.afterStairChange_desc _ _ _)

theorem State.loadStair_outcome (s : State) (w : StoreWrite) (x : StairLoad) :
    LoadOutcome s .building [.level] (s.loadStair w x) := by
  unfold State.loadStair
  split
  · split
    · exact .of_refuse (by decide)
    · exact s.removeStair_outcome w _
  · split
    · exact .of_refuse (by decide)
    · split
      · exact .of_refuse (by decide)
      · split
        · exact .of_refuse (by decide)
        · split
          · exact .of_refuse (by decide)
          · exact s.putStair_outcome w _ _

theorem State.loadBank_outcome (s : State) (w : StoreWrite) (x : BankLoad) :
    LoadOutcome s .building [.level] (s.loadBank w x) := by
  unfold State.loadBank
  split
  · split
    · exact .of_refuse (by decide)
    · split
      · exact .of_refuse (by decide)
      · exact .of_building (State.freshBank_desc _ _)
  · split
    · exact .of_refuse (by decide)
    · split
      · exact .of_refuse (by decide)
      · split
        · exact .of_refuse (by decide)
        · dsimp only
          split
          · exact .of_building rfl
          · exact .of_building (State.freshBank_desc _ _)

theorem State.removeCar_outcome (s : State) (w : StoreWrite) (n : Nat) :
    LoadOutcome s .building [.level] (s.removeCar w n) := by
  unfold State.removeCar
  split
  · exact .of_refuse (by decide)
  · exact .of_building rfl

theorem State.putCar_outcome (s : State) (w : StoreWrite) (n : Nat) (rec : CarRec) :
    LoadOutcome s .building [.level] (s.putCar w n rec) := by
  unfold State.putCar
  split
  · exact .of_refuse (by decide)
  · split
    · exact .of_refuse (by decide)
    · dsimp only
      split <;> exact .of_building rfl

theorem State.loadCar_outcome (s : State) (w : StoreWrite) (x : CarLoad) :
    LoadOutcome s .building [.level] (s.loadCar w x) := by
  unfold State.loadCar
  split
  · exact .of_refuse (by decide)
  · split
    · exact s.removeCar_outcome w _
    · split
      · exact .of_refuse (by decide)
      · split
        · exact .of_refuse (by decide)
        · exact s.putCar_outcome w _ _

theorem State.removeSection_outcome (s : State) (w : StoreWrite) (sec : Nat) :
    LoadOutcome s .building [.level] (s.removeSection w sec) := by
  unfold State.removeSection
  split
  · exact .of_refuse (by decide)
  · exact .of_building rfl

theorem State.putSection_outcome (s : State) (w : StoreWrite) (sec capacity : Nat) (clamped : Bool) :
    LoadOutcome s .building [.level] (s.putSection w sec capacity clamped) := by
  unfold State.putSection
  dsimp only
  split
  · exact .of_building rfl
  · split <;> exact .of_building rfl

theorem State.loadSection_outcome (s : State) (w : StoreWrite) (x : SectionLoad) :
    LoadOutcome s .building [.level] (s.loadSection w x) := by
  unfold State.loadSection
  split
  · exact .of_refuse (by decide)
  · split
    · exact s.removeSection_outcome w _
    · exact .of_ite (.of_refuse (by decide)) (s.putSection_outcome w _ _ _)

theorem State.removeDoor_outcome (s : State) (w : StoreWrite) (n : Nat) :
    LoadOutcome s .building [.level] (s.removeDoor w n) := by
  unfold State.removeDoor
  split
  · exact .of_refuse (by decide)
  · exact .of_building rfl

theorem State.putDoor_outcome (s : State) (w : StoreWrite) (n : Nat) (rec : DoorRec) :
    LoadOutcome s .building [.level] (s.putDoor w n rec) := by
  unfold State.putDoor
  split
  · exact .of_refuse (by decide)
  · dsimp only
    split <;> exact .of_building rfl

theorem State.loadDoor_outcome (s : State) (w : StoreWrite) (x : DoorLoad) :
    LoadOutcome s .building [.level] (s.loadDoor w x) := by
  unfold State.loadDoor
  split
  · exact .of_refuse (by decide)
  · split
    · exact .of_refuse (by decide)
    · split
      · exact s.removeDoor_outcome w _
      · split
        · exact .of_refuse (by decide)
        · exact s.putDoor_outcome w _ _

theorem State.loadPhrase_outcome (s : State) (w : StoreWrite) (x : PhraseLoad) :
    LoadOutcome s .building [.level] (s.loadPhrase w x) := by
  unfold State.loadPhrase
  split
  · exact .of_refuse (by decide)
  · split
    · split
      · exact .of_refuse (by decide)
      · exact .of_building rfl
    · exact .of_building rfl

theorem State.loadTemplate_outcome (s : State) (w : StoreWrite) (x : TemplateLoad) :
    LoadOutcome s .building [.level] (s.loadTemplate w x) := by
  unfold State.loadTemplate
  split
  · exact .of_building rfl
  · split
    · exact .of_refuse (by decide)
    · split
      · exact .of_refuse (by decide)
      · exact .of_building rfl

theorem State.useStair_outcome (s : State) (w : StoreWrite) (st : Stair) (r : StairRec) (inUse : Bool) :
    LoadOutcome s .building [.level, .state] (s.useStair w st r inUse) := by
  unfold State.useStair
  dsimp only
  split
  · exact .of_building rfl
  · split <;> exact .of_building (State.afterStairChange_desc _ _ _)

/-! ## The load of the INPUT group (R12, R33) -/

theorem State.putPort_outcome (s : State) (w : StoreWrite) (p : Port) (x : PortLoad) :
    LoadOutcome s .input [.level] (s.putPort w p x) := by
  have changed (f : InputGroup → InputGroup) : s.onlyGroup (s.changeInput f) .input := s.onlyGroup_changeInput f
  unfold State.putPort
  dsimp only
  split
  · exact .of_loaded (changed _)
  · exact .of_loaded (State.onlyGroup_of_desc (changed _) (State.changeMode_desc _ p))

/-! ## The loads of the MAP group (R37 to R41, R47, R48) -/

theorem State.loadRange_outcome (s : State) (w : StoreWrite) (x : RangeLoad) :
    LoadOutcome s .map [.level, .state] (s.loadRange w x) := by
  unfold State.loadRange
  split
  · exact .of_refuse (by decide)
  · split
    · exact .of_refuse (by decide)
    · split
      · exact .of_refuse (by decide)
      · dsimp only
        split
        · exact .of_refuse (by decide)
        · split
          · exact .of_refuse (by decide)
          · exact .of_loaded (s.onlyGroup_changeMap _)

theorem State.removeRange_outcome (s : State) (w : StoreWrite) (x : PointRef) :
    LoadOutcome s .map [.level, .state] (s.removeRange w x) := by
  unfold State.removeRange
  split
  · exact .of_refuse (by decide)
  · split
    · exact .of_loaded (s.onlyGroup_changeMap _)
    · exact .of_refuse (by decide)

/-- A SET_ZONE body is wrong in its form or in a name, never for the level or the regime (R37). -/
theorem State.zoneArea_error (s : State) (x : ZoneLoad) (r : Reason) (h : s.zoneArea x = .error r) :
    r = .format ∨ r = .unknown := by
  unfold State.zoneArea at h
  split at h
  · cases h; exact .inl rfl
  · split at h <;> cases h
    exact .inr rfl
  · split at h
    · cases h; exact .inl rfl
    · split at h
      · cases h; exact .inr rfl
      · split at h <;> cases h
        exact .inr rfl

theorem State.restoreZone_outcome (s : State) (w : StoreWrite) (z : Nat) (barred : List Reason) :
    LoadOutcome s .map barred (s.restoreZone w z) := by
  have handed (t : State) (points : List (Port × Nat)) :
      (points.foldl (fun t x => t.handAlarm x.1 x.2) t).desc = t.desc :=
    foldl_desc (fun t (x : Port × Nat) => t.handAlarm_desc x.1 x.2) points t
  exact .of_done (State.onlyGroup_of_desc (State.onlyGroup_writeThrough (s.onlyGroup_changeMap _) w) (handed _ _))

/-! ## The conditions of R1 -/

/-- R1 for the loads of the BUILDING and the INPUT group: level 2, then NORMAL. -/
structure NormalLoad (s : State) (g : StoreGroup) (level : Nat) (a : State × Answer) : Prop where
  tooLow : 2 < level → a = refuse s .level
  regime : level ≤ 2 → s.regime.regime ≠ .normal → a = refuse s .state
  taken  : level ≤ 2 → s.regime.regime = .normal → LoadOutcome s g [.level] a

/-- R1 for STAIR_USE: level 2, in every regime. -/
structure StairUseLoad (s : State) (level : Nat) (a : State × Answer) : Prop where
  tooLow : 2 < level → a = refuse s .level
  taken  : level ≤ 2 → LoadOutcome s .building [.level] a
  regime : s.unconfigured = false → a.2.verdict ≠ .refused .state

/-- R1 for a MAP request of a kind: the level the regime asks for, and no regime it is turned away in. Only SET_ZONE
(17) gives a body with its refusal (R38). Past the level check, it is refused for none of the barred reasons. -/
structure MapLoad (s : State) (kind level : Nat) (barred : List Reason) (a : State × Answer) : Prop where
  tooLow : s.mapLevel < level → ∃ body, a = (s, ⟨.refused .level, body⟩) ∧ (kind ≠ 17 → body = [])
  taken : level ≤ s.mapLevel → LoadOutcome s .map barred a

theorem NormalLoad.frame {s : State} {g : StoreGroup} {level : Nat} {a : State × Answer} (h : NormalLoad s g level a) :
    s.onlyGroup a.1 g := by
  by_cases hl : 2 < level
  · rw [h.tooLow hl]; exact s.onlyGroup_self g
  · by_cases hr : s.regime.regime = .normal
    · exact (h.taken (by omega) hr).frame
    · rw [h.regime (by omega) hr]; exact s.onlyGroup_self g

theorem StairUseLoad.frame {s : State} {level : Nat} {a : State × Answer} (h : StairUseLoad s level a) :
    s.onlyGroup a.1 .building := by
  by_cases hl : 2 < level
  · rw [h.tooLow hl]; exact s.onlyGroup_self _
  · exact (h.taken (by omega)).frame

theorem MapLoad.frame {s : State} {kind level : Nat} {barred : List Reason} {a : State × Answer}
    (h : MapLoad s kind level barred a) : s.onlyGroup a.1 .map := by
  by_cases hl : s.mapLevel < level
  · obtain ⟨_, rfl, _⟩ := h.tooLow hl; exact s.onlyGroup_self _
  · exact (h.taken (by omega)).frame

/-- No regime turns a MAP request away. -/
theorem MapLoad.regime {s : State} {kind level : Nat} {barred : List Reason} {a : State × Answer}
    (h : MapLoad s kind level barred a) (hb : .state ∈ barred) : a.2.verdict ≠ .refused .state := by
  by_cases hl : s.mapLevel < level
  · obtain ⟨_, rfl, _⟩ := h.tooLow hl; nofun
  · exact (h.taken (by omega)).reason _ hb

/-! ## Each description request under its conditions -/

theorem buildingLoad_normal {α : Type} (s : State) (level : Nat) (b : Option α) (f : α → State × Answer)
    (hf : ∀ x, LoadOutcome s .building [.level] (f x)) : NormalLoad s .building level (buildingLoad s level b f) where
  tooLow h := if_pos h
  regime h hr := by simp [buildingLoad, Nat.not_lt.2 h, hr]
  taken h _ := by
    unfold buildingLoad
    rw [if_neg (Nat.not_lt.2 h)]
    split
    · exact .of_refuse (by decide)
    · cases b with
      | none => exact .of_refuse (by decide)
      | some x => exact hf x

theorem State.setBuilding_normal (s : State) (w : StoreWrite) (b : Option BuildingLoad) (level : Nat) :
    NormalLoad s .building level (s.setBuilding w b level) where
  tooLow h := if_pos h
  regime h hr := by simp [State.setBuilding, Nat.not_lt.2 h, hr]
  taken h hr := by
    unfold State.setBuilding
    rw [if_neg (Nat.not_lt.2 h), if_neg fun hn => hn hr]
    cases b with
    | none => exact .of_refuse (by decide)
    | some x =>
      dsimp only
      split
      · exact .of_refuse (by decide)
      · split
        · exact .of_refuse (by decide)
        · exact s.loadBuilding_outcome w x

theorem State.loadPort_normal (s : State) (w : StoreWrite) (b : Option PortLoad) (level : Nat) :
    NormalLoad s .input level (s.loadPort w b level) where
  tooLow h := if_pos h
  regime h hr := by simp [State.loadPort, Nat.not_lt.2 h, hr]
  taken h hr := by
    unfold State.loadPort
    rw [if_neg (Nat.not_lt.2 h), if_neg fun hn => hn hr]
    cases b with
    | none => exact .of_refuse (by decide)
    | some x =>
      dsimp only
      split
      · exact .of_refuse (by decide)
      · split
        · exact .of_refuse (by decide)
        · split
          · exact .of_refuse (by decide)
          · exact s.putPort_outcome w _ x

/-- Past its level, a STAIR_USE of a building with a record fails by its body alone. -/
theorem State.stairUse_outcome (s : State) (w : StoreWrite) (b : Option StairUse) (level : Nat) (h : level ≤ 2)
    (hu : s.unconfigured = false) : LoadOutcome s .building [.level, .state] (s.stairUse w b level) := by
  unfold State.stairUse
  rw [if_neg (Nat.not_lt.2 h), if_neg (by simp [hu])]
  cases b with
  | none => exact .of_refuse (by decide)
  | some x =>
    dsimp only
    split
    · exact .of_refuse (by decide)
    · split
      · exact .of_refuse (by decide)
      · exact s.useStair_outcome w _ _ _

theorem State.stairUse_load (s : State) (w : StoreWrite) (b : Option StairUse) (level : Nat) :
    StairUseLoad s level (s.stairUse w b level) where
  tooLow h := if_pos h
  taken h := by
    cases hu : s.unconfigured with
    | false =>
      have ho := s.stairUse_outcome w b level h hu
      exact ⟨ho.frame, fun r hr => ho.reason r (by simp_all)⟩
    | true =>
      have ha : s.stairUse w b level = refuse s .state := by simp [State.stairUse, Nat.not_lt.2 h, hu]
      rw [ha]
      exact .of_refuse (by decide)
  regime hu := by
    by_cases h : 2 < level
    · rw [show s.stairUse w b level = refuse s .level from if_pos h]
      nofun
    · exact (s.stairUse_outcome w b level (by omega) hu).reason _ (by decide)

theorem mapLoad_map {α : Type} (s : State) (kind level : Nat) (barred : List Reason) (b : Option α)
    (f : α → State × Answer) (hb : .format ∉ barred) (hf : ∀ x, LoadOutcome s .map barred (f x)) :
    MapLoad s kind level barred (mapLoad s level b f) where
  tooLow h := ⟨[], if_pos h, fun _ => rfl⟩
  taken h := by
    unfold mapLoad
    rw [if_neg (Nat.not_lt.2 h)]
    cases b with
    | none => exact .of_refuse hb
    | some x => exact hf x

theorem State.loadZone_map (s : State) (w : StoreWrite) (b : Option ZoneLoad) (level : Nat) :
    MapLoad s 17 level [.level, .state] (s.loadZone w b level) where
  tooLow h := by
    cases b with
    | none => exact ⟨[], if_pos h, fun _ => rfl⟩
    | some x => exact ⟨_, if_pos h, fun hk => absurd rfl hk⟩
  taken h := by
    unfold State.loadZone
    cases b with
    | none =>
      dsimp only
      rw [if_neg (Nat.not_lt.2 h)]
      exact .of_refuse (by decide)
    | some x =>
      dsimp only
      rw [if_neg (Nat.not_lt.2 h)]
      split
      · next r hr =>
        obtain rfl | rfl := s.zoneArea_error x r hr <;> exact .of_refused (by decide)
      · exact .of_loaded (State.onlyGroup_of_desc (s.onlyGroup_changeMap _) (State.zoneRevised_desc _ _ _))

/-- ISOLATE_ZONE and RESTORE_ZONE: past the level of the group they may still be refused LEVEL, for their zone (R47). -/
theorem zoneLock_map (s : State) (kind level : Nat) (b : Option Nat) (f : Nat → State × Answer)
    (hf : ∀ z, LoadOutcome s .map [.state] (f z)) : MapLoad s kind level [.state] (zoneLock s level b f) :=
  mapLoad_map s kind level _ b _ (by decide) fun z => by
    split
    · exact .of_refuse (by decide)
    · split
      · exact .of_refuse (by decide)
      · exact hf z

/-! ## From the answer of the division to the reply -/

/-- Every command is carried out to a next state: the model has no fault and refuses no command. -/
theorem exec_next (c : Instr) (s : State) : ∃ t, exec c s = .next t := by cases c <;> exact ⟨_, rfl⟩

/-- What R1 asks of the answer to a description request of a kind, at an effective level. -/
inductive LoadConditionsMet (s : State) (level : Nat) (a : State × Answer) : Nat → Prop
  | building {k : Nat} (hk : 7 ≤ k ∧ k ≤ 15) (h : NormalLoad s .building level a) : LoadConditionsMet s level a k
  | input (h : NormalLoad s .input level a) : LoadConditionsMet s level a 16
  | stairUse (h : StairUseLoad s level a) : LoadConditionsMet s level a 22
  | map {k : Nat} (hk : 17 ≤ k ∧ k ≤ 19) (h : MapLoad s k level [.level, .state] a) : LoadConditionsMet s level a k
  | lock {k : Nat} (hk : 20 ≤ k ∧ k ≤ 21) (h : MapLoad s k level [.state] a) : LoadConditionsMet s level a k

/-- A request of a kind is taken, and whatever the level, the answer of its division meets the conditions of R1. -/
def LoadTaken (c : Instr) (l : Link) (h : Header) (k : Nat) (s : State) : Prop :=
  ∃ carry, exec c s = .next (takeRequest l h k c s carry) ∧ ∀ level, LoadConditionsMet s level (carry level) k

namespace LoadTaken

variable {c : Instr} {l : Link} {h : Header} {k : Nat} {s : State} {α : Type} {b : Option α} {f : α → State × Answer}

theorem of_buildingLoad (hk : 7 ≤ k ∧ k ≤ 15) (hf : ∀ x, LoadOutcome s .building [.level] (f x))
    (he : exec c s = .next (takeRequest l h k c s fun level => buildingLoad s level b f)) : LoadTaken c l h k s :=
  ⟨_, he, fun level => .building hk (buildingLoad_normal s level b f hf)⟩

theorem of_mapLoad (hk : 17 ≤ k ∧ k ≤ 19) (hf : ∀ x, LoadOutcome s .map [.level, .state] (f x))
    (he : exec c s = .next (takeRequest l h k c s fun level => mapLoad s level b f)) : LoadTaken c l h k s :=
  ⟨_, he, fun level => .map hk (mapLoad_map s k level _ b f (by decide) hf)⟩

theorem of_zoneLock {b : Option Nat} {f : Nat → State × Answer} (hk : 20 ≤ k ∧ k ≤ 21)
    (hf : ∀ z, LoadOutcome s .map [.state] (f z))
    (he : exec c s = .next (takeRequest l h k c s fun level => zoneLock s level b f)) : LoadTaken c l h k s :=
  ⟨_, he, fun level => .lock hk (zoneLock_map s k level b f hf)⟩

end LoadTaken

/-- A request whose kind is that of a description request is taken under the conditions of R1. -/
theorem description_request_taken {c : Instr} {l : Link} {h : Header} {k : Nat} (s : State)
    (hs : sentBy c = some (l, h)) (hk : Instr.kind c = some k) (h7 : 7 ≤ k) (h22 : k ≤ 22) : LoadTaken c l h k s := by
  cases c
  case setBuilding w b => cases hs; cases hk; exact ⟨_, rfl, fun _ => .building (by decide) (s.setBuilding_normal w b _)⟩
  case setFloor w b => cases hs; cases hk; exact .of_buildingLoad (by decide) (s.loadFloor_outcome w) rfl
  case setStair w b => cases hs; cases hk; exact .of_buildingLoad (by decide) (s.loadStair_outcome w) rfl
  case setBank w b => cases hs; cases hk; exact .of_buildingLoad (by decide) (s.loadBank_outcome w) rfl
  case setCar w b => cases hs; cases hk; exact .of_buildingLoad (by decide) (s.loadCar_outcome w) rfl
  case setSection w b => cases hs; cases hk; exact .of_buildingLoad (by decide) (s.loadSection_outcome w) rfl
  case setDoor w b => cases hs; cases hk; exact .of_buildingLoad (by decide) (s.loadDoor_outcome w) rfl
  case setPhrase w b => cases hs; cases hk; exact .of_buildingLoad (by decide) (s.loadPhrase_outcome w) rfl
  case setTemplate w b => cases hs; cases hk; exact .of_buildingLoad (by decide) (s.loadTemplate_outcome w) rfl
  case setPort w b => cases hs; cases hk; exact ⟨_, rfl, fun _ => .input (s.loadPort_normal w b _)⟩
  case setZone w b => cases hs; cases hk; exact ⟨_, rfl, fun _ => .map (by decide) (s.loadZone_map w b _)⟩
  case setRange w b => cases hs; cases hk; exact .of_mapLoad (by decide) (s.loadRange_outcome w) rfl
  case clearRange w b => cases hs; cases hk; exact .of_mapLoad (by decide) (s.removeRange_outcome w) rfl
  case isolateZone w b =>
    cases hs; cases hk
    exact .of_zoneLock (by decide) (fun _ => .of_loaded (s.onlyGroup_changeMap _)) rfl
  case restoreZone w b =>
    cases hs; cases hk
    exact .of_zoneLock (by decide) (fun z => s.restoreZone_outcome w z _) rfl
  case stairUse w b => cases hs; cases hk; exact ⟨_, rfl, fun _ => .stairUse (s.stairUse_load w b _)⟩
  all_goals cases hs
  all_goals cases hk; omega

/-- R1 for a description request of a kind whose link is free: its answer meets the conditions and is sent in reply. -/
theorem description_request_replied {c : Instr} {l : Link} {h : Header} {k : Nat} {s : State}
    (hs : sentBy c = some (l, h)) (hk : Instr.kind c = some k) (hf : s.free l) (h7 : 7 ≤ k) (h22 : k ≤ 22) :
    ∃ a : State × Answer, exec c s = .next (a.1.reply l h.station (effectiveLevel l h) h.tag k a.2)
      ∧ LoadConditionsMet s (effectiveLevel l h) a k := by
  obtain ⟨carry, hexec, hmet⟩ := description_request_taken s hs hk h7 h22
  exact ⟨carry (effectiveLevel l h), by rw [hexec, takeRequest_free l h k c s carry hf.1 hf.2], hmet _⟩

/-- A request that leaves the state as it was leaves it with the reply alone. -/
theorem State.reply_replied (s : State) (l : Link) (h : Header) (k : Nat) (a : Answer) :
    s.reply l h.station (effectiveLevel l h) h.tag k a = s.replied l h k a.verdict (cutBody a.body) := rfl

/-- The reply that a request sends answers it. -/
theorem State.reply_answered (s : State) (l : Link) (h : Header) (k : Nat) (a : Answer) :
    (s.reply l h.station (effectiveLevel l h) h.tag k a).answered l h k a.verdict (cutBody a.body) := by
  unfold State.answered State.reply
  simp only [State.setLink_link]
  rfl

/-- Settles O19: a request of another kind meets no clause but the last, and a description request meets the clauses of
its group by the conditions its answer meets. -/
theorem loadConditions : Obligations.LoadConditions := by
  intro c l h k s hs hk hf level mapLevel refused passes
  by_cases hload : 7 ≤ k ∧ k ≤ 22
  case neg =>
    obtain ⟨t, ht⟩ := exec_next c s
    exact ⟨by omega, by omega, by omega, t, ht, by omega, by omega, by omega⟩
  obtain ⟨a, hexec, hmet⟩ := description_request_replied hs hk hf hload.1 hload.2
  have turned (r : Reason) (body : List (List Byte)) (ha : a = (s, ⟨.refused r, body⟩)) :
      exec c s = .next (s.replied l h k (.refused r) (cutBody body)) := by
    rw [hexec, ha, State.reply_replied]
  have pass (r : Reason) (hr : a.2.verdict ≠ .refused r) : passes r :=
    ⟨_, _, _, hexec, State.reply_answered .., hr⟩
  have normal (g : StoreGroup) (ha : NormalLoad s g level a) : (2 < level → refused .level)
      ∧ (level ≤ 2 → s.regime.regime ≠ .normal → refused .state)
      ∧ (level ≤ 2 → s.regime.regime = .normal → passes .level) :=
    ⟨fun hl => turned _ [] (ha.tooLow hl), fun hl hr => turned _ [] (ha.regime hl hr),
      fun hl hr => pass _ ((ha.taken hl hr).reason _ (by decide))⟩
  have tooLow (barred : List Reason) (ha : MapLoad s k level barred a) (hl : mapLevel < level) :
      ∃ body, exec c s = .next (s.replied l h k (.refused .level) body) ∧ (k ≠ 17 → body = []) := by
    obtain ⟨body, he, hb⟩ := ha.tooLow hl
    exact ⟨_, turned _ body he, fun h17 => by rw [hb h17]; rfl⟩
  cases hmet with
  | building hk ha => exact ⟨fun _ => normal _ ha, by omega, by omega, _, hexec, fun _ => ha.frame, by omega, by omega⟩
  | input ha => exact ⟨fun _ => normal _ ha, by omega, by omega, _, hexec, by omega, fun _ => ha.frame, by omega⟩
  | stairUse ha =>
    exact ⟨by omega, fun _ => ⟨fun hl => turned _ [] (ha.tooLow hl),
        fun hl => pass _ ((ha.taken hl).reason _ (by decide)), fun hu => pass _ (ha.regime hu)⟩,
      by omega, _, hexec, fun _ => ha.frame, by omega, by omega⟩
  | map hk ha =>
    exact ⟨by omega, by omega, fun _ => ⟨tooLow _ ha, fun hl _ => pass _ ((ha.taken hl).reason _ (by decide)),
      pass _ (ha.regime (by decide))⟩, _, hexec, by omega, by omega, fun _ => ha.frame⟩
  | lock hk ha =>
    exact ⟨by omega, by omega, fun _ => ⟨tooLow _ ha, by omega, pass _ (ha.regime (by decide))⟩, _, hexec,
      by omega, by omega, fun _ => ha.frame⟩

end Sys2Proof.Machine

/-! PROOFS. The range table as CLEAR_RANGE finds and leaves it (R39, R40). A MAP load is looked at once for all its requests:
what it is refused for its level, and what any change of the MAP group leaves once it is written through and answered. -/

namespace Sys2Proof.Machine

/-! ## A load of the MAP group, from its change to its reply (R1 to R3) -/

@[simp] theorem State.writeThrough_notKept (s : State) (g : StoreGroup) (w : StoreWrite) :
    (s.writeThrough g w).2 = notKept w := by cases w <;> rfl

/-- Of the description, the write of the MAP group to the store sets its keeping state alone. -/
theorem State.writeThrough_desc_map (s : State) (w : StoreWrite) :
    (s.writeThrough .map w).1.desc = { s.desc with keepMap := keepingAfter w } := by
  obtain ⟨rfl, _, hd, _⟩ | ⟨rfl, _, hd, _⟩ := s.writeThrough_cases .map w <;> exact hd

theorem State.wroteGroup_writeThrough {s t : State} (h : t.store = s.store) (g : StoreGroup) (w : StoreWrite) :
    s.wroteGroup (t.writeThrough g w).1 g w := by
  obtain ⟨rfl, _, hd, hs⟩ | ⟨rfl, _, hd, hs⟩ := t.writeThrough_cases g w
  · exact ⟨by rw [hd, Description.keeping_setKeeping]; rfl, by rw [hs, hd, h]⟩
  · exact ⟨by rw [hd, Description.keeping_setKeeping]; rfl, hs.trans h⟩

/-- A load that gives the MAP group the contents `new` has gone through to the store; what else differs is the fallback
indication, now clear, and the links (R1, R3, R13). -/
structure State.MapChanged (s t : State) (w : StoreWrite) (new : MapGroup) : Prop where
  map   : t.desc.map = new
  only  : s.onlyMap t
  wrote : s.wroteGroup t .map w
  frame : s.onlyChanges t [.store, .desc, .links]

/-- A state that is another one once its description, store and links are put back differs in those three alone. -/
theorem State.onlyChanges_of_rest {s t : State}
    (h : { t with desc := s.desc, store := s.store, links := s.links } = s) :
    s.onlyChanges t [.store, .desc, .links] := by
  intro p hp
  rw [← h]
  cases p with
  | store | desc | links => exact absurd (by decide) hp
  | _ => rfl

/-- What a change of the MAP group alone comes to, once it is written through and the reply to it is sent. -/
theorem State.mapChanged_loaded_reply (s : State) (f : MapGroup → MapGroup) (w : StoreWrite) (clamped : Bool)
    (body : List (List Byte)) (l : Link) (station level tag kind : Nat) (a : Answer) :
    s.MapChanged ((loaded (s.changeMap f) .map w clamped body).1.reply l station level tag kind a) w
      (f s.desc.map) := by
  have hd : ((loaded (s.changeMap f) .map w clamped body).1.reply l station level tag kind a).desc
      = { (s.changeMap f).desc with keepMap := keepingAfter w } := (s.changeMap f).writeThrough_desc_map w
  have hr := (s.changeMap f).writeThrough_rest .map w
  exact
    { map := congrArg Description.map hd
      only := by rw [State.onlyMap, hd]; exact ⟨rfl, rfl⟩
      wrote := State.wroteGroup_writeThrough (t := s.changeMap f) rfl .map w
      frame := State.onlyChanges_of_rest (congrArg (fun t => { t with desc := s.desc }) hr) }

section MapRequest

variable {α : Type} {c : Instr} {l : Link} {h : Header} {k : Nat} {s : State} {f : α → State × Answer} {x : α}
  (hexec : exec c s = .next (takeRequest l h k c s fun level => mapLoad s level (some x) f)) (hfree : s.free l)
include hexec hfree

theorem exec_mapLoad_tooLow (hl : s.mapLevel < effectiveLevel l h) :
    exec c s = .next (s.replied l h k (.refused .level) []) := by
  rw [hexec, takeRequest_free l h k c s _ hfree.1 hfree.2, mapLoad, if_pos hl]
  rfl

variable (hl : effectiveLevel l h ≤ s.mapLevel)
include hl

theorem exec_mapLoad_taken :
    exec c s = .next ((f x).1.reply l h.station (effectiveLevel l h) h.tag k (f x).2) := by
  rw [hexec, takeRequest_free l h k c s _ hfree.1 hfree.2]
  unfold mapLoad
  rw [if_neg (Nat.not_lt.2 hl)]

theorem exec_mapLoad_refused {r : Reason} (hx : f x = refuse s r) :
    exec c s = .next (s.replied l h k (.refused r) []) := by
  rw [exec_mapLoad_taken hexec hfree hl, hx]
  rfl

theorem exec_mapLoad_loaded {g : MapGroup → MapGroup} {w : StoreWrite} {clamped : Bool} {body : List (List Byte)}
    (hx : f x = loaded (s.changeMap g) .map w clamped body) :
    ∃ t, exec c s = .next t ∧ t.answered l h k (.done clamped (notKept w)) (cutBody body)
      ∧ s.MapChanged t w (g s.desc.map) := by
  refine ⟨_, exec_mapLoad_taken hexec hfree hl, ?_, ?_⟩ <;> rw [hx]
  · rw [← State.writeThrough_notKept]
    exact State.reply_answered ..
  · exact s.mapChanged_loaded_reply ..

end MapRequest

/-! ## Ports -/

@[simp] theorem portOf_portNumber (p : Port) : portOf (portNumber p) = some p := by cases p <;> rfl

theorem portOf_eq_none {k : Nat} (h : k < 1 ∨ 4 < k) : portOf k = none := by
  match k with
  | 0 => rfl
  | 1 | 2 | 3 | 4 => omega
  | _ + 5 => rfl

/-! ## The range table (R39) -/

theorem Range.beginsAt_iff (r : Range) (p : Port) (n : Nat) : r.beginsAt p n = true ↔ r.port = p ∧ r.first = n := by
  simp [Range.beginsAt]

theorem Range.holds_iff {r : Range} {p : Port} {n : Nat} :
    r.holds p n = true ↔ r.port = p ∧ r.first ≤ n ∧ n < r.first + r.count := by
  simp [Range.holds, and_assoc]

theorem Range.overlaps_comm (r t : Range) : r.overlaps t = t.overlaps r := by
  rw [Range.overlaps, Range.overlaps, BEq.comm (a := r.port), Bool.and_right_comm]

/-- Ranges that hold one point share it. -/
theorem Range.overlaps_of_holds {r t : Range} {p : Port} {n : Nat} (hr : r.holds p n = true) (ht : t.holds p n = true) :
    r.overlaps t = true := by
  obtain ⟨rfl, _, _⟩ := holds_iff.1 hr
  obtain ⟨hp, _, _⟩ := holds_iff.1 ht
  simp only [Range.overlaps, hp, beq_self_eq_true, Bool.true_and, Bool.and_eq_true, decide_eq_true_eq]
  omega

/-- Two different members of a list stand in a symmetric relation that its members pairwise stand in. (Mathlib has this as
`List.Pairwise.forall`; the package stands on core Lean alone.) -/
theorem rel_of_pairwise_of_ne {α : Type} {R : α → α → Prop} (symm : ∀ a b, R a b → R b a) {l : List α}
    (hl : l.Pairwise R) {a b : α} (ha : a ∈ l) (hb : b ∈ l) (hne : a ≠ b) : R a b := by
  induction hl with
  | nil => cases ha
  | cons head _ ih =>
    cases ha with
    | head =>
      cases hb with
      | head => exact absurd rfl hne
      | tail _ hb => exact head _ hb
    | tail _ ha =>
      cases hb with
      | head => exact symm _ _ (head _ ha)
      | tail _ hb => exact ih ha hb

section Sound

variable {ranges : List Range} (hs : rangesSound ranges)
include hs

theorem rangesSound.nodup : ranges.Nodup := by
  obtain ⟨_, rising, _⟩ := hs
  refine List.Pairwise.imp ?_ rising
  rintro r _ hlt rfl
  exact Nat.lt_irrefl _ hlt

/-- Two different ranges of a sound table differ in port or first point and share no point. -/
theorem rangesSound.apart {r t : Range} (hr : r ∈ ranges) (ht : t ∈ ranges) (hne : r ≠ t) :
    pointKey r.port r.first ≠ pointKey t.port t.first ∧ r.overlaps t = false := by
  obtain ⟨_, rising, disjoint, _⟩ := hs
  have keys : ranges.Pairwise fun r t => pointKey r.port r.first ≠ pointKey t.port t.first :=
    rising.imp fun hlt => Nat.ne_of_lt hlt
  refine rel_of_pairwise_of_ne ?_ (keys.and disjoint) hr ht hne
  rintro r t ⟨hkey, hpoint⟩
  exact ⟨hkey.symm, (t.overlaps_comm r).trans hpoint⟩

/-- In a sound table a port and a first point name one range. -/
theorem rangesSound.eq_of_begin {r t : Range} (hr : r ∈ ranges) (ht : t ∈ ranges) (hp : r.port = t.port)
    (hf : r.first = t.first) : r = t :=
  Decidable.byContradiction fun hne => (hs.apart hr ht hne).1 (by rw [hp, hf])

/-- So the removal of what begins there is the removal of that range. -/
theorem rangesSound.filter_beginsAt {r : Range} (hr : r ∈ ranges) :
    (ranges.filter fun t => !t.beginsAt r.port r.first) = ranges.erase r := by
  rw [hs.nodup.erase_eq_filter]
  refine List.filter_congr fun t ht => ?_
  have named : t.beginsAt r.port r.first = true ↔ t = r := by
    rw [Range.beginsAt_iff]
    exact ⟨fun ⟨hp, hf⟩ => hs.eq_of_begin ht hr hp hf, by rintro rfl; exact ⟨rfl, rfl⟩⟩
  exact congrArg not (Bool.eq_iff_iff.2 (named.trans beq_iff_eq.symm))

/-- In a sound table a point lies in one range at most. -/
theorem rangesSound.eq_of_holds {r t : Range} {p : Port} {n : Nat} (hr : r ∈ ranges) (ht : t ∈ ranges)
    (hrn : r.holds p n = true) (htn : t.holds p n = true) : r = t := by
  refine Decidable.byContradiction fun hne => ?_
  obtain ⟨_, disjoint⟩ := hs.apart hr ht hne
  exact Bool.false_ne_true (disjoint.symm.trans (Range.overlaps_of_holds hrn htn))

/-- With its range gone from a sound table, a point belongs to none. -/
theorem rangesSound.find_holds_erase {r : Range} {p : Port} {n : Nat} (hr : r ∈ ranges) (hn : r.holds p n = true) :
    (ranges.erase r).find? (fun t => t.holds p n) = none := by
  refine List.find?_eq_none.2 fun t ht htn => ?_
  obtain ⟨hne, hmem⟩ := hs.nodup.mem_erase_iff.1 ht
  exact hne (hs.eq_of_holds hmem hr htn hn)

end Sound

/-! ## CLEAR_RANGE (R40) -/

theorem State.removeRange_noPort (s : State) (w : StoreWrite) {k : Nat} (n : Nat) (h : portOf k = none) :
    s.removeRange w ⟨k, n⟩ = refuse s .unknown := by
  simp only [State.removeRange, h]

theorem State.removeRange_absent (s : State) (w : StoreWrite) (p : Port) (n : Nat)
    (h : ∀ r ∈ s.desc.map.ranges, ¬ (r.port = p ∧ r.first = n)) :
    s.removeRange w ⟨portNumber p, n⟩ = refuse s .unknown := by
  simp only [State.removeRange, portOf_portNumber]
  refine if_neg fun hany => ?_
  obtain ⟨r, hr, hb⟩ := List.any_eq_true.1 hany
  exact h r hr ((r.beginsAt_iff p n).1 hb)

theorem State.removeRange_present (s : State) (w : StoreWrite) {r : Range} (hs : rangesSound s.desc.map.ranges)
    (hr : r ∈ s.desc.map.ranges) :
    s.removeRange w ⟨portNumber r.port, r.first⟩
      = loaded (s.changeMap fun g => { g with ranges := g.ranges.erase r }) .map w false [] := by
  simp only [State.removeRange, portOf_portNumber]
  rw [if_pos (List.any_eq_true.2 ⟨r, hr, (r.beginsAt_iff _ _).2 ⟨rfl, rfl⟩⟩)]
  simp only [State.changeMap, hs.filter_beginsAt hr]

/-- Settles O29: the level check of a MAP load, the two ways no range is found, and the removal of the one range that the
port and first point name, whose points no other range holds. -/
theorem rangeClear : Obligations.RangeClear := by
  intro l h w p k n s hf hs clear needed
  have taken (x : PointRef) : exec (.clearRange l h w (some x)) s = .next (takeRequest l h 19
      (.clearRange l h w (some x)) s fun level => mapLoad s level (some x) (s.removeRange w)) := rfl
  refine ⟨exec_mapLoad_tooLow (taken _) hf,
    fun hl hk => exec_mapLoad_refused (taken _) hf hl (s.removeRange_noPort w n (portOf_eq_none hk)),
    fun hl hno => exec_mapLoad_refused (taken _) hf hl (s.removeRange_absent w p n hno), ?_⟩
  rintro r hr hl rfl rfl
  obtain ⟨t, hclear, answered, changed⟩ :=
    exec_mapLoad_loaded (taken _) hf hl (s.removeRange_present w hs hr)
  have ranges : t.desc.map.ranges = s.desc.map.ranges.erase r := by rw [changed.map]
  refine ⟨t, hclear, answered, ranges, by rw [changed.map], changed.only, changed.wrote, changed.frame,
    fun k hfirst hlast => ?_⟩
  rw [State.rangeOf, ranges]
  exact hs.find_holds_erase hr (Range.holds_iff.2 ⟨rfl, hfirst, hlast⟩)

end Sys2Proof.Machine
